-- ==== Sys2Proof/Word.lean ====
section
/-! DEFINITION. The plain data the model is written in: characters, bytes, and the arithmetic words of the manual's
section 3.2 (clamp, saturate). Counts and indices are natural numbers, signed quantities are integers: the manual adds and
compares them and never masks them; only what stands on a line bit by bit (a byte, a converter code) is a bit vector. -/

namespace Sys2Proof

/-- The characters of a line (About This Manual, 3.4; R213). -/
abbrev Text := List Char

/-- One character or byte as a serial line carries it (R185, R212). -/
abbrev Byte := BitVec 8

/-- `clamp`: held to the range `lo..hi` (section 3.2). -/
def clampInt (lo hi x : Int) : Int := max lo (min hi x)

/-- Saturation at the top of a natural range (section 3.2). -/
def satNat (top n : Nat) : Nat := min top n

/-- `2^40`, the modulus of the seconds count (R1) and of the sample index (R33). -/
def count40 : Nat := 1099511627776

/-- Ticks of a nominal local second (R1). -/
def tickRate : Nat := 10000000

/-- The highest ticks reading, 9,999,999 (R1). -/
def topTick : Nat := 9999999

end Sys2Proof
end

