-- ==== Sys2Proof/Syntax.lean ====
section
/-! DEFINITION. The commands the block takes: one constructor of `Instr` for each row of `spec/opcode_table.json`, with the
row's operands, and the names those operands are drawn from. -/

namespace Sys2Proof

/-- The two master ports (About This Manual, 1.2). -/
inductive Port
  | a
  | b
  deriving DecidableEq, Repr

/-- The port that is not this one. -/
def Port.other : Port → Port
  | .a => .b
  | .b => .a

/-- The seven switched loads, in the fixed order of R167. -/
inductive Domain
  | aux
  | sensor
  | storage
  | gnss
  | modem
  | heatBatt
  | heatInst
  deriving DecidableEq, Repr

/-- The two heaters (Thermal Control, 7.2). -/
inductive Heater
  | batt
  | inst
  deriving DecidableEq, Repr

/-- What uptime makes fall due (R3), each as the row of its name takes it; `leases` and `alerts` are the expiries of R178 and
R132. -/
inductive Due
  | schedule
  | holdOff
  | sessionLimit
  | settle
  | forcedClose
  | transit
  | alerts
  | acquisition
  | dwell (h : Heater)
  | phase (h : Heater)
  | leases
  deriving DecidableEq, Repr

/-- What the battery monitor shows, in mV and in signed mA (R158). -/
structure Monitor where
  v : BitVec 16
  i : BitVec 16
  deriving DecidableEq, Repr

/-- What the end of a local second meets: what the battery monitor shows then, and `first`, what falls due with the new uptime and
is taken before the measurement, in its order (R171, R179). What the list leaves out comes as its own row, after the
measurement. A command that ends no second does not read it. -/
structure Ending where
  shown : Monitor
  first : List Due
  deriving DecidableEq, Repr

/-- A PPS: the oscillator ticks since the command before it, and the end of the second it makes where the time is set at it
(R16). -/
structure Pulse where
  wait : Nat
  ending : Ending
  deriving DecidableEq, Repr

/-- The text of a TIME.SET after its command word, and the end of the second it makes where it sets the time (R24). -/
structure TimeLine where
  text : Text
  ending : Ending
  deriving DecidableEq, Repr

/-- How a character was received: whether its stop bit was missing (R185, R187), and the end of the second it makes where it
completes a TIME.SET that sets the time (R24). -/
structure Reception where
  framing : Bool
  ending : Ending
  deriving DecidableEq, Repr

/-- A command. Rows of three sorts stand in the table.

* Lines: `p` is the port the completed line was received on, and `args` is the text of the line AFTER its command word, as
  it stands (R189, R190); the meaning checks its form.
* Events from outside (an input pin, a GNSS line, a digitizer frame, a character): the operands are what the input shows.
* The part's own events (a timer that falls due, a grant of an arbiter, the end of a local second): they carry no operand,
  or the name of the one timer or domain concerned. -/
inductive Instr
  /-- The local second ends (R1). -/
  | rollover (shown : Monitor) (first : List Due)
  /-- A line of the time message input ends, `wait` oscillator ticks after the command before it (R5, R212). `framing`: a
  character of the line had a framing error. -/
  | timeMessage (wait : Nat) (line : List Byte) (framing : Bool)
  /-- A PPS (R6). -/
  | pps (pulse : Pulse)
  | scheduleTimer
  | holdOffDue
  | sessionLimit
  | timeSet (p : Port) (args : TimeLine)
  | timeSession (p : Port) (args : Text)
  | timeRead (p : Port) (args : Text)
  | settleTimer
  /-- The ticks reading reaches the next grid point (R32). `busy`: a burst is running in the store at that moment (R106). -/
  | strobe (busy : Bool)
  /-- A run of bytes on the frame line, closed (R34, R212). `framing`: a framing error among its first eleven bytes. `busy`:
  a burst is running in the store at that moment (R106). -/
  | digitizerFrame (bytes : List Byte) (framing : Bool) (busy : Bool)
  | smpRead (p : Port) (args : Text)
  | forcedClose
  | trigRead (p : Port) (args : Text)
  | evtList (p : Port) (args : Text)
  | evtRead (p : Port) (args : Text)
  | evtRelease (p : Port) (args : Text)
  | wavCapture (p : Port) (args : Text)
  | captureBurst
  | ringWrite
  | wavRead (p : Port) (args : Text)
  /-- A grant to a port's read. `reqA`, `reqB`: whether Port A and Port B can take a burst and so request one (R109). -/
  | readBurst (reqA : Bool) (reqB : Bool)
  | wavStatus (p : Port) (args : Text)
  | alrFetch (p : Port) (args : Text)
  | alrResult (p : Port) (args : Text)
  | transitTimerDue
  | alertExpiry
  | alrPost (p : Port) (args : Text)
  | alrList (p : Port) (args : Text)
  | acquisitionTimer
  /-- The four converter codes taken together at the completion (R140, R142). -/
  | acquisitionComplete (vault : BitVec 12) (osc : BitVec 12) (batt : BitVec 12) (sensor : BitVec 12)
  | thmAcquire (p : Port) (args : Text)
  | thmClear (p : Port) (args : Text)
  | thmRead (p : Port) (args : Text)
  | dwellTimer (h : Heater)
  | phaseTimer (h : Heater)
  | sequencerGrant
  | powerGoodPresent (d : Domain)
  | powerGoodLost (d : Domain)
  | riseTimer (d : Domain)
  | leaseExpiry
  /-- The charge-source-present input changes to `present` (R180). -/
  | chargeSourceChange (present : Bool)
  | pwrLease (p : Port) (args : Text)
  | pwrRelease (p : Port) (args : Text)
  | pwrClear (p : Port) (args : Text)
  | pwrRead (p : Port) (args : Text)
  | markedLine (p : Port)
  | unknownCommandWord (p : Port)
  | statusDigest (p : Port)
  | lineDiscarded (p : Port)
  | responseSent (p : Port)
  | busyLineSent (p : Port)
  | attRead (p : Port) (args : Text)
  | setParam (p : Port) (args : Text)
  | getParam (p : Port) (args : Text)
  | save (p : Port) (args : Text)
  | saveWriteEnd
  | ident (p : Port) (args : Text)
  | restart (p : Port) (args : Text)
  | warmRestart
  /-- The RESET input is seen asserted or deasserted (R211). -/
  | resetInput (asserted : Bool)
  | coldStart
  /-- A character on a port (R185, R187). -/
  | characterReceived (p : Port) (c : Byte) (r : Reception)
  deriving DecidableEq, Repr

end Sys2Proof
end

