-- ==== Sys2Proof/Decode.lean ====
section
/-! DEFINITION. The command a word of table bits spells. `spec/opcode_table.json` gives no row any bits: the part takes lines and
events, not encoded words (R189), so no word spells a command. -/

namespace Sys2Proof

/-- No row of the table carries bits, so no word of bits is a command. -/
def decodeTableWord (_nbits _w : Nat) : Option Instr := none

end Sys2Proof
end

