-- ==== Sys2Proof/Config.lean ====
section
/-! DEFINITION. What the part fixes once and for all: the parameter table of Settings 10.1 with its ranges and defaults, the
sizes and durations the manual states as numbers, and the five things it leaves open (`opaque`, no body: a claim holds
whatever they are). -/

namespace Sys2Proof

/-- The parameters of the table of Settings 10.1, in its order. -/
inductive Param
  | timeStepLimit | timeWindow | timeAcqPairs | timeSettlePairs | timeSessionInterval
  | timeSessionLimit | timeSessionThreshold | timeContinuous | timeAging | timeTempCoeff
  | timeLockFloor | timeMinSats | timeComp0 | timeComp1 | timeComp2
  | timeComp3 | timeComp4 | timeComp5 | timeComp6 | timeComp7
  | timeComp8 | timeComp9 | timeComp10 | timeComp11 | smpRate
  | smpSettle | smpLostRun | trigEnable | trigDcShift | trigStaShift
  | trigLtaShift | trigLtaFloor | trigOn | trigOff | trigConfirm
  | trigHold | trigWeightZ | trigWeightN | trigWeightE | trigVote
  | trigPreroll | trigPostroll | trigMaxDuration | trigBlank | alrEarly
  | alrRoutine | alrNotable | alrUrgent | alrTtlUrgent | alrTtlNotable
  | alrTtlRoutine | alrTransit | alrAttempts | thmInterval | thmBhLow
  | thmBhHigh | thmIhLow | thmIhHigh | thmConserveOffset | thmDwell
  | thmHot | thmCool | thmHotCount | thmVaultCold | pwrCapacity
  | pwrAccept | pwrInitialSoc | pwrConserve | pwrCritical | pwrDormant
  | pwrHysteresis | pwrCutoff | pwrFullV | pwrTaper | pwrChargeMin
  | pwrChargeMax | pwrDerate0 | pwrDerate1 | pwrDerate2 | pwrDerate3
  | pwrDerate4 | pwrDerate5 | pwrDerate6 | portABaud | portBBaud
  | attA | attB
  deriving DecidableEq, Repr

/-- How R204 limits a value given for a parameter. -/
inductive ParamKind
  /-- an interval `lo..hi` -/
  | range (lo hi : Int)
  /-- `trig.dc_shift`: 0, or 8..16 -/
  | dcShift
  /-- `smp.rate`: the nearest of the five rates -/
  | rate
  /-- a port speed: the nearest of the six speeds -/
  | baud
  deriving DecidableEq, Repr

/-- One row of the parameter table. -/
structure ParamRow where
  name : String
  kind : ParamKind
  default : Int
  deriving DecidableEq, Repr

/-- The parameter table (Settings 10.1). -/
def Param.row : Param → ParamRow
  | .timeStepLimit => ⟨"time.step_limit", .range 100 10000000, 1000⟩
  | .timeWindow => ⟨"time.window", .range 8 256, 16⟩
  | .timeAcqPairs => ⟨"time.acq_pairs", .range 4 32, 8⟩
  | .timeSettlePairs => ⟨"time.settle_pairs", .range 16 1024, 64⟩
  | .timeSessionInterval => ⟨"time.session_interval", .range 1 48, 12⟩
  | .timeSessionLimit => ⟨"time.session_limit", .range 300 3600, 1200⟩
  | .timeSessionThreshold => ⟨"time.session_threshold", .range 1000 100000000, 1000000⟩
  | .timeContinuous => ⟨"time.continuous", .range 0 1, 0⟩
  | .timeAging => ⟨"time.aging", .range 0 10000, 20⟩
  | .timeTempCoeff => ⟨"time.temp_coeff", .range 0 1000, 2⟩
  | .timeLockFloor => ⟨"time.lock_floor", .range 50 10000, 200⟩
  | .timeMinSats => ⟨"time.min_sats", .range 3 12, 4⟩
  | .timeComp0 => ⟨"time.comp.0", .range (-2000000) (2000000), 0⟩
  | .timeComp1 => ⟨"time.comp.1", .range (-2000000) (2000000), 0⟩
  | .timeComp2 => ⟨"time.comp.2", .range (-2000000) (2000000), 0⟩
  | .timeComp3 => ⟨"time.comp.3", .range (-2000000) (2000000), 0⟩
  | .timeComp4 => ⟨"time.comp.4", .range (-2000000) (2000000), 0⟩
  | .timeComp5 => ⟨"time.comp.5", .range (-2000000) (2000000), 0⟩
  | .timeComp6 => ⟨"time.comp.6", .range (-2000000) (2000000), 0⟩
  | .timeComp7 => ⟨"time.comp.7", .range (-2000000) (2000000), 0⟩
  | .timeComp8 => ⟨"time.comp.8", .range (-2000000) (2000000), 0⟩
  | .timeComp9 => ⟨"time.comp.9", .range (-2000000) (2000000), 0⟩
  | .timeComp10 => ⟨"time.comp.10", .range (-2000000) (2000000), 0⟩
  | .timeComp11 => ⟨"time.comp.11", .range (-2000000) (2000000), 0⟩
  | .smpRate => ⟨"smp.rate", .rate, 100⟩
  | .smpSettle => ⟨"smp.settle", .range 0 600, 60⟩
  | .smpLostRun => ⟨"smp.lost_run", .range 2 50, 4⟩
  | .trigEnable => ⟨"trig.enable", .range 0 1, 1⟩
  | .trigDcShift => ⟨"trig.dc_shift", .dcShift, 12⟩
  | .trigStaShift => ⟨"trig.sta_shift", .range 1 8, 3⟩
  | .trigLtaShift => ⟨"trig.lta_shift", .range 5 14, 10⟩
  | .trigLtaFloor => ⟨"trig.lta_floor", .range 1 65535, 16⟩
  | .trigOn => ⟨"trig.on", .range 17 4095, 56⟩
  | .trigOff => ⟨"trig.off", .range 16 4094, 24⟩
  | .trigConfirm => ⟨"trig.confirm", .range 1 8, 3⟩
  | .trigHold => ⟨"trig.hold", .range 1 255, 50⟩
  | .trigWeightZ => ⟨"trig.weight.z", .range 0 3, 2⟩
  | .trigWeightN => ⟨"trig.weight.n", .range 0 3, 1⟩
  | .trigWeightE => ⟨"trig.weight.e", .range 0 3, 1⟩
  | .trigVote => ⟨"trig.vote", .range 1 9, 2⟩
  | .trigPreroll => ⟨"trig.preroll", .range 0 8192, 3000⟩
  | .trigPostroll => ⟨"trig.postroll", .range 0 16384, 6000⟩
  | .trigMaxDuration => ⟨"trig.max_duration", .range 60 3600, 900⟩
  | .trigBlank => ⟨"trig.blank", .range 0 60, 5⟩
  | .alrEarly => ⟨"alr.early", .range 0 1, 1⟩
  | .alrRoutine => ⟨"alr.routine", .range 0 1, 0⟩
  | .alrNotable => ⟨"alr.notable", .range 1 8388607, 200000⟩
  | .alrUrgent => ⟨"alr.urgent", .range 1 8388607, 2000000⟩
  | .alrTtlUrgent => ⟨"alr.ttl.urgent", .range 600 604800, 21600⟩
  | .alrTtlNotable => ⟨"alr.ttl.notable", .range 600 604800, 86400⟩
  | .alrTtlRoutine => ⟨"alr.ttl.routine", .range 600 604800, 259200⟩
  | .alrTransit => ⟨"alr.transit", .range 30 3600, 600⟩
  | .alrAttempts => ⟨"alr.attempts", .range 1 16, 8⟩
  | .thmInterval => ⟨"thm.interval", .range 10 600, 60⟩
  | .thmBhLow => ⟨"thm.bh.low", .range (-40) (40), 2⟩
  | .thmBhHigh => ⟨"thm.bh.high", .range (-40) (40), 6⟩
  | .thmIhLow => ⟨"thm.ih.low", .range (-40) (40), (-25)⟩
  | .thmIhHigh => ⟨"thm.ih.high", .range (-40) (40), (-20)⟩
  | .thmConserveOffset => ⟨"thm.conserve_offset", .range 0 20, 5⟩
  | .thmDwell => ⟨"thm.dwell", .range 30 900, 120⟩
  | .thmHot => ⟨"thm.hot", .range 0 70, 45⟩
  | .thmCool => ⟨"thm.cool", .range 0 70, 35⟩
  | .thmHotCount => ⟨"thm.hot_count", .range 1 8, 3⟩
  | .thmVaultCold => ⟨"thm.vault_cold", .range (-60) (0), (-45)⟩
  | .pwrCapacity => ⟨"pwr.capacity", .range 1 2000, 200⟩
  | .pwrAccept => ⟨"pwr.accept", .range 50 100, 95⟩
  | .pwrInitialSoc => ⟨"pwr.initial_soc", .range 0 100, 60⟩
  | .pwrConserve => ⟨"pwr.conserve", .range 10 90, 50⟩
  | .pwrCritical => ⟨"pwr.critical", .range 5 85, 20⟩
  | .pwrDormant => ⟨"pwr.dormant", .range 0 80, 8⟩
  | .pwrHysteresis => ⟨"pwr.hysteresis", .range 2 10, 5⟩
  | .pwrCutoff => ⟨"pwr.cutoff", .range 9000 12500, 10800⟩
  | .pwrFullV => ⟨"pwr.full_v", .range 12000 16000, 14100⟩
  | .pwrTaper => ⟨"pwr.taper", .range 10 5000, 200⟩
  | .pwrChargeMin => ⟨"pwr.charge_min", .range (-20) (10), 0⟩
  | .pwrChargeMax => ⟨"pwr.charge_max", .range 30 60, 45⟩
  | .pwrDerate0 => ⟨"pwr.derate.0", .range 10 100, 45⟩
  | .pwrDerate1 => ⟨"pwr.derate.1", .range 10 100, 60⟩
  | .pwrDerate2 => ⟨"pwr.derate.2", .range 10 100, 72⟩
  | .pwrDerate3 => ⟨"pwr.derate.3", .range 10 100, 84⟩
  | .pwrDerate4 => ⟨"pwr.derate.4", .range 10 100, 93⟩
  | .pwrDerate5 => ⟨"pwr.derate.5", .range 10 100, 100⟩
  | .pwrDerate6 => ⟨"pwr.derate.6", .range 10 100, 100⟩
  | .portABaud => ⟨"port.a.baud", .baud, 115200⟩
  | .portBBaud => ⟨"port.b.baud", .baud, 115200⟩
  | .attA => ⟨"att.a", .range 0 4095, 4047⟩
  | .attB => ⟨"att.b", .range 0 4095, 1343⟩
def Param.timeParams : List Param :=
  [.timeStepLimit, .timeWindow, .timeAcqPairs, .timeSettlePairs, .timeSessionInterval, .timeSessionLimit,
   .timeSessionThreshold, .timeContinuous, .timeAging, .timeTempCoeff, .timeLockFloor, .timeMinSats,
   .timeComp0, .timeComp1, .timeComp2, .timeComp3, .timeComp4, .timeComp5, .timeComp6, .timeComp7, .timeComp8,
   .timeComp9, .timeComp10, .timeComp11]

def Param.smpParams : List Param :=
  [.smpRate, .smpSettle, .smpLostRun]

def Param.trigParams : List Param :=
  [.trigEnable, .trigDcShift, .trigStaShift, .trigLtaShift, .trigLtaFloor, .trigOn, .trigOff, .trigConfirm,
   .trigHold, .trigWeightZ, .trigWeightN, .trigWeightE, .trigVote, .trigPreroll, .trigPostroll,
   .trigMaxDuration, .trigBlank]

def Param.alrParams : List Param :=
  [.alrEarly, .alrRoutine, .alrNotable, .alrUrgent, .alrTtlUrgent, .alrTtlNotable, .alrTtlRoutine,
   .alrTransit, .alrAttempts]

def Param.thmParams : List Param :=
  [.thmInterval, .thmBhLow, .thmBhHigh, .thmIhLow, .thmIhHigh, .thmConserveOffset, .thmDwell, .thmHot,
   .thmCool, .thmHotCount, .thmVaultCold]

def Param.pwrParams : List Param :=
  [.pwrCapacity, .pwrAccept, .pwrInitialSoc, .pwrConserve, .pwrCritical, .pwrDormant, .pwrHysteresis,
   .pwrCutoff, .pwrFullV, .pwrTaper, .pwrChargeMin, .pwrChargeMax, .pwrDerate0, .pwrDerate1, .pwrDerate2,
   .pwrDerate3, .pwrDerate4, .pwrDerate5, .pwrDerate6]

def Param.portParams : List Param :=
  [.portABaud, .portBBaud]

def Param.attParams : List Param :=
  [.attA, .attB]

/-- Every parameter, in the order of the parameter table (10.1). -/
def Param.all : List Param :=
  Param.timeParams ++ Param.smpParams ++ Param.trigParams ++ Param.alrParams ++ Param.thmParams ++ Param.pwrParams ++ Param.portParams ++ Param.attParams

/-- The place of a parameter in the table. -/
def Param.index (p : Param) : Nat := p.ctorIdx

namespace Config

/-- The sample ring's length (R33). -/
def ringLength : Nat := 16384
/-- Blocks of the Waveform Store (R94). -/
def blockCount : Nat := 96
/-- Sets in one block (5.1). -/
def blockSets : Nat := 2048
/-- Blocks a record may hold (R85). -/
def recordBlocks : Nat := 24
/-- Sets in one burst of the store (R102, R109). -/
def burstSets : Nat := 64
/-- Slots of the catalogue (R74). -/
def catalogueSlots : Nat := 32
/-- Entries of the capture job table (5.2). -/
def jobEntries : Nat := 4
/-- Places in the Alert Queue (R117). -/
def queuePlaces : Nat := 16
/-- Characters a line buffer holds (R187). -/
def lineLength : Nat := 120
/-- The highest owed BUSY count (R192). -/
def owedTop : Nat := 16
/-- The longest MASTER text (R134). -/
def textLength : Nat := 48
/-- The longest time message line (R212). -/
def messageLength : Nat := 40
/-- The highest id of either id sequence (section 3.3). -/
def idTop : Nat := 65535
/-- The bound of the rate trim and of the total rate, 1e-11 (R2, R20). -/
def rateBound : Int := 5000000
/-- The bound of one window's correction (R20). -/
def correctionBound : Int := 50000
/-- The saturation of a step amount and of a step total (R16, R82). -/
def stepBound : Int := 2147483647
/-- The ticks in one second: a step beyond it posts STEP (R17). -/
def stepAlertTicks : Int := 10000000
/-- The pairing margin of 50 ms, in oscillator ticks (R6). -/
def pairMargin : Nat := 500000
/-- The length of an acquisition, 500 ms in oscillator ticks (R140). -/
def acquisitionTicks : Nat := 5000000
/-- The rise time of AUX, 50 ms (R168). -/
def riseAux : Nat := 500000
/-- The rise time of the other domains, 200 ms (R168). -/
def riseOther : Nat := 2000000
/-- The hold-off after a failed session, in seconds (R11). -/
def holdOff : Nat := 3600
/-- The top of U16 (R22). -/
def u16Top : Nat := 68719476735
/-- Consecutive full-charge measurements that make a resync (R160). -/
def resyncCount : Nat := 600
/-- The fallback on phase, in seconds (R149). -/
def fallbackOn : Nat := 225
/-- The fallback off phase, in seconds (R149). -/
def fallbackOff : Nat := 675

/-- OPEN (R142): the part's fixed thermistor table lies outside the manual, which says only that it is a monotone function of
the code. Every monotone function of a code is a first value and one step at each code, all steps of one direction: the first
value, the steps and the direction are the free values. -/
opaque thermistorBase : Int
/-- OPEN (R142): the steps of the thermistor table. -/
opaque thermistorStep : Nat → Nat
/-- OPEN (R142): whether the thermistor table rises with the code. -/
opaque thermistorRises : Bool

/-- OPEN (R208): the sum check formed over the values of the stored copy; the manual does not say how. -/
opaque sumCheck : List Int → Nat

/-- OPEN (10.3): which values of a stored copy whose writing was cut off by a loss of supply are already the new ones. The
first argument is the model's counter `draws`, the second the place in the parameter table. -/
opaque tornWrite : Nat → Nat → Bool

/-- OPEN (R112): how many of its sets a capture burst in progress has written when a warm restart stops it; 0 where none runs. The
argument is the model's counter `draws`. -/
opaque stoppedBurst : Nat → Nat

/-- OPEN (R102, R112): the table entry of the job whose capture burst is in progress when a warm restart stops it. It need not be
the job that the next burst would serve, since another may have become COPYING while the burst ran. The argument is the model's
counter `draws`. -/
opaque stoppedJob : Nat → Nat

/-- OPEN (R30, R106): whether a burst runs in the store when SENSOR leaves ON with a strobe outstanding, so that the ring write of
its set waits. The first argument is the model's counter `draws`, the second the set's sample index. -/
opaque burstRuns : Nat → Nat → Bool

end Config

end Sys2Proof
end

