-- ==== Sys2Proof/Machine/State.lean ====
section
/-! DEFINITION. The state of the JC3610, block by block, each field named as the manual names it; the values each block takes
at cold start; and the state right after reset, which is the state after a cold start whose stored copy has never been
written. Everything is plain data. -/

namespace Sys2Proof.Machine

open Sys2Proof

/-! ### Things kept per port, component, channel, heater or domain -/

/-- One value for each port. -/
structure PerPort (α : Type) where
  a : α
  b : α
  deriving DecidableEq, Repr

def PerPort.get {α : Type} (t : PerPort α) : Port → α
  | .a => t.a
  | .b => t.b

def PerPort.set {α : Type} (t : PerPort α) (p : Port) (x : α) : PerPort α :=
  match p with
  | .a => { t with a := x }
  | .b => { t with b := x }

/-- The three components of the seismometer (section 3.1). -/
inductive Axis
  | z
  | n
  | e
  deriving DecidableEq, Repr

/-- One value for each component. -/
structure PerAxis (α : Type) where
  z : α
  n : α
  e : α
  deriving DecidableEq, Repr

def PerAxis.get {α : Type} (t : PerAxis α) : Axis → α
  | .z => t.z
  | .n => t.n
  | .e => t.e

def PerAxis.map {α β : Type} (f : α → β) (t : PerAxis α) : PerAxis β := ⟨f t.z, f t.n, f t.e⟩

/-- The four temperature channels (Thermal Control, 7.1). -/
inductive Channel
  | vault
  | osc
  | batt
  | sensor
  deriving DecidableEq, Repr

/-- One value for each channel. -/
structure PerChannel (α : Type) where
  vault : α
  osc : α
  batt : α
  sensor : α
  deriving DecidableEq, Repr

def PerChannel.get {α : Type} (t : PerChannel α) : Channel → α
  | .vault => t.vault
  | .osc => t.osc
  | .batt => t.batt
  | .sensor => t.sensor

def PerChannel.set {α : Type} (t : PerChannel α) (c : Channel) (x : α) : PerChannel α :=
  match c with
  | .vault => { t with vault := x }
  | .osc => { t with osc := x }
  | .batt => { t with batt := x }
  | .sensor => { t with sensor := x }

/-- One value for each heater. -/
structure PerHeater (α : Type) where
  batt : α
  inst : α
  deriving DecidableEq, Repr

def PerHeater.get {α : Type} (t : PerHeater α) : Heater → α
  | .batt => t.batt
  | .inst => t.inst

def PerHeater.set {α : Type} (t : PerHeater α) (h : Heater) (x : α) : PerHeater α :=
  match h with
  | .batt => { t with batt := x }
  | .inst => { t with inst := x }

/-- One value for each domain. -/
structure PerDomain (α : Type) where
  aux : α
  sensor : α
  storage : α
  gnss : α
  modem : α
  heatBatt : α
  heatInst : α
  deriving DecidableEq, Repr

def PerDomain.get {α : Type} (t : PerDomain α) : Domain → α
  | .aux => t.aux
  | .sensor => t.sensor
  | .storage => t.storage
  | .gnss => t.gnss
  | .modem => t.modem
  | .heatBatt => t.heatBatt
  | .heatInst => t.heatInst

def PerDomain.set {α : Type} (t : PerDomain α) (d : Domain) (x : α) : PerDomain α :=
  match d with
  | .aux => { t with aux := x }
  | .sensor => { t with sensor := x }
  | .storage => { t with storage := x }
  | .gnss => { t with gnss := x }
  | .modem => { t with modem := x }
  | .heatBatt => { t with heatBatt := x }
  | .heatInst => { t with heatInst := x }

/-! ### The Station Timebase (01) -/

/-- Clock states (R8). -/
inductive ClockState
  | unset
  | holdover
  | locked
  deriving DecidableEq, Repr

/-- GNSS session states (R8). -/
inductive Session
  | idle
  | powering
  | seeking
  | tracking
  deriving DecidableEq, Repr

/-- Time classes (R23), in the order of the payload's code (R214). -/
inductive TimeClass
  | lock
  | fine
  | milli
  | coarse
  | poor
  | none
  deriving DecidableEq, Repr

/-- A stamp: seconds, ticks and the class in force when it was taken (section 3.1). -/
structure Stamp where
  seconds : Nat
  ticks : Nat
  cls : TimeClass
  deriving DecidableEq, Repr

/-- A time message in the pairing buffer with its arrival moment on the oscillator count (R5, R6). -/
structure Message where
  seconds : Nat
  valid : Bool
  sats : Nat
  arrival : Nat
  deriving DecidableEq, Repr

/-- An open discipline window (R20): `width` is W as it stood at the opening, `net` is S. -/
structure Window where
  eStart : Int
  pairs : Nat
  net : Int
  width : Nat
  deriving DecidableEq, Repr

/-- The Timebase. `raw` counts the ticks of the second in progress from the reading it would have begun at 0; the reading is
`raw` held at 9,999,999, and the second has run its length when `raw` reaches `endAt` (R1). `osc` is the model's count of
oscillator ticks since cold start, against which durations shorter than a second are measured (R3). -/
structure Timebase where
  clock : ClockState
  session : Session
  seconds : Nat
  raw : Nat
  endAt : Nat
  osc : Nat
  /-- n and s of R2, as fixed for the second in progress -/
  n : Int
  slew : Int
  uptime : Nat
  trim : Int
  acc : Int
  p : Int
  tc : Int
  u16 : Nat
  thetaRef : Option Int
  buffer : Option Message
  reference : Option Nat
  goodCount : Nat
  settleCount : Nat
  outlierCount : Nat
  missingCount : Nat
  /-- the session has reached its settle count and continues (R21) -/
  continuing : Bool
  window : Option Window
  /-- the open window, or the next one opened, is to be discarded (R17, R20) -/
  discard : Bool
  sessionStart : Nat
  scheduleDue : Nat
  holdOffDue : Option Nat
  failures : Nat
  deriving DecidableEq, Repr

/-- The Timebase at cold start (R26). The first second lasts 10,000,000 ticks. -/
def Timebase.cold : Timebase where
  clock := .unset
  session := .idle
  seconds := 0
  raw := 0
  endAt := tickRate
  osc := 0
  n := 0
  slew := 0
  uptime := 0
  trim := 0
  acc := 0
  p := 0
  tc := 0
  u16 := 0
  thetaRef := none
  buffer := none
  reference := none
  goodCount := 0
  settleCount := 0
  outlierCount := 0
  missingCount := 0
  continuing := false
  window := none
  discard := false
  sessionStart := 0
  scheduleDue := 2
  holdOffDue := none
  failures := 0

/-! ### Sample Acquisition (02) -/

/-- Front states (2.1). -/
inductive FrontState
  | stopped
  | settling
  | running
  | linkLost
  deriving DecidableEq, Repr

/-- A ring record (R36), also the copy of it in a block (R102). -/
structure SetRec where
  index : Nat
  stamp : Stamp
  sample : PerAxis Int
  missing : Bool
  clipped : PerAxis Bool
  step : Bool
  blanked : Bool
  deriving DecidableEq, Repr

/-- An outstanding strobe (R32). -/
structure Strobe where
  index : Nat
  stamp : Stamp
  expected : Nat
  step : Bool
  deriving DecidableEq, Repr

/-- The Sample Front. `ring` holds the completed sets present in the ring, NEWEST FIRST, at most 16,384: set i stands in slot
i mod 16,384 (R33). `waiting` is a completed set whose ring write still waits for the store (R106). `gridNext` is the number k
of the next grid point of this second that is still to be strobed (R31). -/
structure Front where
  state : FrontState
  sampleIndex : Nat
  ring : List SetRec
  waiting : Option SetRec
  missingRun : Nat
  linkSeq : Nat
  outstanding : Option Strobe
  stepPending : Bool
  settleDue : Option Nat
  rate : Nat
  gridNext : Nat
  deriving DecidableEq, Repr

/-- The Sample Front at cold start (R41). -/
def Front.cold (rate : Nat) : Front where
  state := .stopped
  sampleIndex := 0
  ring := []
  waiting := none
  missingRun := 0
  linkSeq := 0
  outstanding := none
  stepPending := false
  settleDue := none
  rate := rate
  gridNext := 0

/-! ### Trigger Detection (03) -/

/-- Component states (3.3). -/
inductive CompState
  | priming
  | quiet
  | arming
  | triggered
  deriving DecidableEq, Repr

/-- The index and the stamp of a set (3.1). -/
structure Mark where
  index : Nat
  stamp : Stamp
  deriving DecidableEq, Repr

/-- A detector record (3.1). -/
structure Comp where
  state : CompState
  dc : Int
  sta : Nat
  lta : Nat
  q : Option Nat
  priming : Nat
  firstPending : Bool
  run : Nat
  below : Nat
  candidate : Option Mark
  onset : Option Mark
  deriving DecidableEq, Repr

/-- A detector record at cold start and warm restart (R70, R71). -/
def Comp.cold : Comp where
  state := .priming
  dc := 0
  sta := 0
  lta := 0
  q := none
  priming := 0
  firstPending := true
  run := 0
  below := 0
  candidate := none
  onset := none

/-- Station states (3.6). -/
inductive Station
  | suspended
  | quiet
  | active
  | post
  deriving DecidableEq, Repr

/-- The suspension causes held (R57). -/
structure Causes where
  enableOff : Bool
  frontNotRunning : Bool
  dormant : Bool
  deriving DecidableEq, Repr

/-- The event context (3.1). -/
structure EventCtx where
  record : Option Nat
  onset : Mark
  openIndex : Nat
  openUptime : Nat
  voting : PerAxis Bool
  triggered : PerAxis Bool
  peak : PerAxis Nat
  ratio : PerAxis Nat
  clipped : Bool
  blanked : Bool
  deriving DecidableEq, Repr

/-- The Trigger Unit (3.1). `lastRate` is the rate carried by the most recent set handed over since cold start (R54). -/
structure Trigger where
  comp : PerAxis Comp
  station : Station
  causes : Causes
  blanking : Nat
  event : Option EventCtx
  countdown : Option Nat
  lastRate : Option Nat
  deriving DecidableEq, Repr

/-- The Trigger Unit at cold start (R70); `off`: trig.enable is 0 in the settings loaded. -/
def Trigger.cold (off : Bool) : Trigger where
  comp := ⟨Comp.cold, Comp.cold, Comp.cold⟩
  station := .suspended
  causes := ⟨off, true, false⟩
  blanking := 0
  event := none
  countdown := none
  lastRate := none

/-! ### The Event Catalogue (04) -/

/-- Severities (R115, R121). -/
inductive Severity
  | routine
  | notable
  | urgent
  deriving DecidableEq, Repr

/-- The kind of a record or of a capture job (4.1, 5.2). -/
inductive Kind
  | event
  | manual
  deriving DecidableEq, Repr

/-- Record states (R72). -/
inductive RecordState
  | opened
  | closed
  | released
  deriving DecidableEq, Repr

/-- Capture statuses (4.1). -/
inductive Capture
  | none
  | running
  | complete
  | truncated
  | cancelled
  deriving DecidableEq, Repr

/-- The alert link of a record (R87). -/
inductive Link
  | none
  | queued (id : Nat)
  | delivered (revision : Nat)
  | lost
  deriving DecidableEq, Repr

/-- The flags of a record, in the order of the record table (4.1). -/
structure RecFlags where
  clipped : Bool
  stepped : Bool
  interrupted : Bool
  forced : Bool
  blankedDuring : Bool
  prerollShort : Bool
  long : Bool
  truncated : Bool
  noCapture : Bool
  deriving DecidableEq, Repr

/-- A block with the sets written into it; its fill is their number (5.1). Only a block that a job or a record holds has
contents that can be read (R94), so the contents stand with the holder. -/
structure Block where
  number : Nat
  sets : List SetRec
  deriving DecidableEq, Repr

/-- A catalogue record (4.1). The trigger fields of a MANUAL record are absent. -/
structure Record where
  id : Nat
  kind : Kind
  state : RecordState
  onsetIndex : Nat
  onsetStamp : Option Stamp
  openIndex : Option Nat
  closeIndex : Option Nat
  duration : Option Nat
  voting : Option (PerAxis Bool)
  triggered : Option (PerAxis Bool)
  peak : Option (PerAxis Nat)
  ratio : Option (PerAxis Nat)
  severity : Option Severity
  flags : RecFlags
  stepTotal : Option Int
  capture : Capture
  blocks : List Block
  link : Link
  pins : Nat
  deriving DecidableEq, Repr

/-- The catalogue: its records in creation order, and the last assigned id (R74, R75). -/
structure Catalogue where
  records : List Record
  lastId : Nat
  deriving DecidableEq, Repr

/-- The catalogue at cold start (R92). -/
def Catalogue.cold : Catalogue where
  records := []
  lastId := 0

/-! ### Waveform Store and Capture (05) -/

/-- Job states (R96). -/
inductive JobState
  | waitingData
  | waitingBlock
  | copying
  deriving DecidableEq, Repr

/-- An entry of the capture job table (5.2). `number` is the table entry, 0..3. -/
structure Job where
  number : Nat
  kind : Kind
  record : Nat
  start : Nat
  next : Nat
  stop : Option Nat
  current : Option Block
  posted : Nat
  stampPending : Bool
  state : JobState
  deriving DecidableEq, Repr

/-- A WAV.READ in progress on a port (R109): the record pinned, the block position, the offset of the next set and the sets
still to fetch: 0 once the last has passed to the port's output, until it has been sent. -/
structure Read where
  record : Nat
  position : Nat
  offset : Nat
  left : Nat
  deriving DecidableEq, Repr

/-- The Waveform Store and Capture Engine: the free-block list from its head, the jobs in CREATION ORDER, the last-served port
and the reads in progress. -/
structure Store where
  free : List Nat
  jobs : List Job
  lastServed : Port
  reads : PerPort (Option Read)
  deriving DecidableEq, Repr

/-- The store at cold start (R111). -/
def Store.cold : Store where
  free := List.range Config.blockCount
  jobs := []
  lastServed := .b
  reads := ⟨none, none⟩

/-! ### Alerts and the Uplink Handoff (06) -/

/-- The causes of non-quake alerts, each with its qualifier (R115). -/
inductive Cause
  | degraded
  | sessions
  | step
  | catalogueFull
  | blocksExhausted
  | conserve
  | critical
  | dormant
  | domainFault (d : Domain)
  | channelFault (c : Channel)
  | vaultCold
  | heaterLockout (h : Heater)
  | master (p : Port)
  deriving DecidableEq, Repr

/-- A quake summary (6.1). -/
structure Summary where
  onset : Stamp
  peak : PerAxis Nat
  ratio : PerAxis Nat
  duration : Option Nat
  clipped : Bool
  blankedDuring : Bool
  forced : Bool
  interrupted : Bool
  final : Bool
  revision : Nat
  deriving DecidableEq, Repr

/-- A pending revision: a final summary with the severity computed from it at the close (R124). -/
structure Revision where
  summary : Summary
  severity : Severity
  deriving DecidableEq, Repr

/-- An alert (6.1). `cause` is absent for QUAKE, `quake` present only for QUAKE. `transit` is the binding port while the alert
is IN_TRANSIT. `joined` is the model's place of the alert in the order of joining (R117). -/
structure Alert where
  id : Nat
  cause : Option Cause
  severity : Severity
  created : Stamp
  createdUptime : Nat
  expiry : Nat
  attempts : Nat
  transit : Option Port
  repeats : Nat
  event : Option Nat
  quake : Option Summary
  pending : Option Revision
  text : Text
  joined : Nat
  deriving DecidableEq, Repr

/-- The states of the event track (R122). -/
inductive TrackState
  | none
  | alert (id : Nat)
  | delivered (revision : Nat)
  | lost
  deriving DecidableEq, Repr

/-- The event track (R122). -/
structure Track where
  event : Option Nat
  state : TrackState
  deriving DecidableEq, Repr

/-- The Alert Queue: the alerts in queue order, the transit timer, the track, the counters of R136. -/
structure AlertQueue where
  alerts : List Alert
  lastId : Nat
  nextJoin : Nat
  transitDue : Option Nat
  track : Option Track
  delivered : Nat
  dropped : Nat
  expired : Nat
  undeliverable : Nat
  timeouts : Nat
  deriving DecidableEq, Repr

/-- The Alert Queue at cold start (R138). -/
def AlertQueue.cold : AlertQueue where
  alerts := []
  lastId := 0
  nextJoin := 0
  transitDue := none
  track := none
  delivered := 0
  dropped := 0
  expired := 0
  undeliverable := 0
  timeouts := 0

/-! ### Energy levels (08) and Thermal Control (07) -/

/-- Energy levels (8.2). -/
inductive Level
  | normal
  | conserve
  | critical
  | dormant
  deriving DecidableEq, Repr

/-- The last reading of a channel (7.1). -/
inductive Reading
  | good
  | faulty
  deriving DecidableEq, Repr

/-- A channel record (7.1). -/
structure ChanRec where
  value : Option Int
  fault : Bool
  faulty : Nat
  last : Option Reading
  deriving DecidableEq, Repr

/-- A channel at cold start (R156). -/
def ChanRec.cold : ChanRec where
  value := none
  fault := false
  faulty := 0
  last := none

/-- Heater controller states (7.2). -/
inductive HeaterState
  | heaterOff
  | heating
  | fallbackOn
  | fallbackOff
  | lockout
  | inhibited
  | faulted
  deriving DecidableEq, Repr

/-- The phase timer (7.2): not running, running with a due uptime, or fallen due and not yet acted on. -/
inductive Phase
  | off
  | due (at_ : Nat)
  | fallen
  deriving DecidableEq, Repr

/-- A heater controller (7.2). Its request is the function `HeaterState.requests` of its state (R145). -/
structure HeaterRec where
  state : HeaterState
  dwell : Option Nat
  phase : Phase
  hot : Nat
  lockout : Bool
  coolSeen : Bool
  faulted : Bool
  deriving DecidableEq, Repr

/-- A heater controller at cold start (R156). -/
def HeaterRec.cold : HeaterRec where
  state := .heaterOff
  dwell := none
  phase := .off
  hot := 0
  lockout := false
  coolSeen := false
  faulted := false

/-- The Thermal Unit. `completes` is the oscillator count at which a RUNNING acquisition completes, absent when IDLE (R140). -/
structure Thermal where
  chan : PerChannel ChanRec
  completes : Option Nat
  timerDue : Nat
  latest : Option Nat
  armed : Bool
  level : Level
  source : Bool
  heater : PerHeater HeaterRec
  deriving DecidableEq, Repr

/-- The Thermal Unit at cold start (R156). -/
def Thermal.cold : Thermal where
  chan := ⟨ChanRec.cold, ChanRec.cold, ChanRec.cold, ChanRec.cold⟩
  completes := none
  timerDue := 1
  latest := none
  armed := true
  level := .normal
  source := false
  heater := ⟨HeaterRec.cold, HeaterRec.cold⟩

/-! ### Energy Management (08) -/

/-- Domain states (8.3). -/
inductive DomState
  | off
  | waiting
  | rising
  | on
  | fault
  deriving DecidableEq, Repr

/-- A domain record (8.3); `riseDue` is the oscillator count at which power-good is overdue, in RISING. -/
structure DomRec where
  state : DomState
  requested : Bool
  riseDue : Option Nat
  deriving DecidableEq, Repr

/-- A domain at cold start (R183). -/
def DomRec.cold : DomRec where
  state := .off
  requested := false
  riseDue := none

/-- The leasable domains (R173). -/
inductive LeaseDomain
  | modem
  | storage
  deriving DecidableEq, Repr

/-- The purpose of a lease (R173). -/
inductive Purpose
  | routine
  | alert
  deriving DecidableEq, Repr

/-- The reasons a lease ends for (R177). -/
inductive EndReason
  | expired
  | released
  | revoked
  | fault
  deriving DecidableEq, Repr

/-- A lease (R173); its key is its place in the table. -/
structure Lease where
  purpose : Purpose
  granted : Nat
  grantedAt : Nat
  expiry : Nat
  deriving DecidableEq, Repr

/-- One value for each leasable domain. -/
structure PerLease (α : Type) where
  modem : α
  storage : α
  deriving DecidableEq, Repr

def PerLease.get {α : Type} (t : PerLease α) : LeaseDomain → α
  | .modem => t.modem
  | .storage => t.storage

def PerLease.set {α : Type} (t : PerLease α) (d : LeaseDomain) (x : α) : PerLease α :=
  match d with
  | .modem => { t with modem := x }
  | .storage => { t with storage := x }

/-- A port's last lease end (R173). -/
structure LeaseEnd where
  domain : LeaseDomain
  reason : EndReason
  uptime : Nat
  deriving DecidableEq, Repr

/-- The Energy Unit (8.1, 8.3, 8.4, 8.5). The waiting list is the domains in WAITING in the fixed order of R167, and the domain
holding the rising slot is the one in RISING: both are read from `domain`. -/
structure Energy where
  v : Option Nat
  i : Option Int
  charge : Nat
  cFull : Nat
  /-- SET has changed pwr.capacity since the latest measurement (R182) -/
  capacityChanged : Bool
  estimated : Bool
  resync : Nat
  entry : Option Nat
  usable : Option Nat
  soc : Option Nat
  level : Option Level
  domain : PerDomain DomRec
  lease : PerPort (PerLease (Option Lease))
  lastEnd : PerPort (Option LeaseEnd)
  chargeEnable : Bool
  deriving DecidableEq, Repr

/-- The Energy Unit at cold start (R183), from `cFull` and pwr.initial_soc as loaded. -/
def Energy.cold (cFull soc : Nat) : Energy where
  v := none
  i := none
  charge := cFull * soc / 100
  cFull := cFull
  capacityChanged := false
  estimated := true
  resync := 0
  entry := none
  usable := none
  soc := none
  level := none
  domain := ⟨DomRec.cold, DomRec.cold, DomRec.cold, DomRec.cold, DomRec.cold, DomRec.cold, DomRec.cold⟩
  lease := ⟨⟨none, none⟩, ⟨none, none⟩⟩
  lastEnd := ⟨none, none⟩
  chargeEnable := false

/-! ### The Master Ports (09) -/

/-- The attention causes, in the order of their priorities 1..12 (9.3). -/
inductive Attn
  | restarted
  | levelChanged
  | domainFault
  | leaseEnded
  | alertWaiting
  | transitTimeout
  | eventOpened
  | eventReady
  | timeChanged
  | thermal
  | settingsChanged
  | storeDefaulted
  deriving DecidableEq, Repr

/-- Command states of a port (9.2). -/
inductive PortState
  | ready
  | responding
  | clearing
  deriving DecidableEq, Repr

/-- A master port (The Master Ports, the opening table). `line` is the line being sent and `payload` the bytes of a WAV.READ
payload passed to the line so far. `afterCr`: the character received last was a CR (R187). `restartWaits`: the response being
sent answers RESTART (R211). ATTN is asserted exactly while `presented` holds a cause (R197). The routing set is read from the
working table, where att.a and att.b stand (R199). -/
structure PortRec where
  speed : Nat
  buffer : Text
  bad : Bool
  overlong : Bool
  skipping : Bool
  afterCr : Bool
  state : PortState
  owed : Nat
  line : Text
  payload : List Byte
  restartWaits : Bool
  pending : List Attn
  presented : Option Attn
  deriving DecidableEq, Repr

/-- A port at cold start (R202). -/
def PortRec.cold (speed : Nat) : PortRec where
  speed := speed
  buffer := []
  bad := false
  overlong := false
  skipping := false
  afterCr := false
  state := .ready
  owed := 0
  line := []
  payload := []
  restartWaits := false
  pending := []
  presented := none

/-! ### Settings (10) -/

/-- A table of parameter values, in the order of `Param.all`. -/
abbrev Table := List Int

/-- The default of every parameter. -/
def Table.default : Table := Param.all.map (·.row.default)

/-- The Settings Store: the working table, the stored copy with its validity marker and sum check, and, while the store state
is SAVING, the snapshot being written (R208). -/
structure Settings where
  working : Table
  stored : Table
  marker : Bool
  sum : Nat
  saving : Option Table
  deriving DecidableEq, Repr

/-! ### Inputs, and the whole -/

/-- What the input pins show (section 1.3): power-good of each domain, charge-source-present and RESET. What the battery monitor
shows comes with each command that ends a second. -/
structure Pins where
  powerGood : PerDomain Bool
  source : Bool
  reset : Bool
  deriving DecidableEq, Repr

/-- The inputs as the model finds them first: nothing powered, no source, RESET deasserted. -/
def Pins.initial : Pins where
  powerGood := ⟨false, false, false, false, false, false, false⟩
  source := false
  reset := false

/-- The state of the JC3610. `restartsDue` counts the RESTART commands whose response has been sent and whose warm
restart is still to be made (R211). `draws` is the model's own count of the lives a free value may differ between, the
cold starts and the warm restarts; `Config.tornWrite`, `Config.stoppedJob`, `Config.stoppedBurst` and `Config.burstRuns` are applied to it. `pending`
is the queue of commands that wait, first in first out. -/
structure State where
  tb : Timebase
  front : Front
  trig : Trigger
  cat : Catalogue
  store : Store
  alerts : AlertQueue
  thermal : Thermal
  energy : Energy
  port : PerPort PortRec
  settings : Settings
  pins : Pins
  restartsDue : Nat
  draws : Nat
  pending : List Instr
  deriving DecidableEq, Repr

/-- Why a step could stop. The manual gives every command an effect, and the model raises no fault. -/
inductive Fault
  /-- Raised by nothing; the type has this one constructor so that it is not empty. Safe: no command answers it. -/
  | neverRaised
  deriving DecidableEq, Repr

/-- Why a command could be turned away. -/
inductive Refusal
  /-- Raised by an arm of `exec` whose command has no meaning yet; no arm is such. Safe: the machine stops. -/
  | notModelled (mnemonic : String)
  deriving DecidableEq, Repr

/-- The state right after reset: a cold start (R26, R41, R70, R92, R111, R138, R156, R183, R202) with a stored copy that has
never been written, so that every parameter has its default and STORE_DEFAULTED is pending at Port A behind RESTARTED (R202,
R209). -/
def State.reset : State where
  tb := Timebase.cold
  front := Front.cold 100
  trig := Trigger.cold false
  cat := Catalogue.cold
  store := Store.cold
  alerts := AlertQueue.cold
  thermal := Thermal.cold
  energy := Energy.cold 720000000 60
  port :=
    ⟨{ PortRec.cold 115200 with pending := [.storeDefaulted, .restarted], presented := some .restarted },
     { PortRec.cold 115200 with pending := [.restarted], presented := some .restarted }⟩
  settings := ⟨Table.default, Table.default, false, 0, none⟩
  pins := Pins.initial
  restartsDue := 0
  draws := 0
  pending := []

end Sys2Proof.Machine
end

