-- ==== Sys2Proof/Machine/Ops.lean ====
section
/-! DEFINITION. The named operations that every block shares: reading a parameter, the arithmetic of sample indices, stamps and
the time class, the passing of oscillator ticks, raising an attention cause, and placing a response on a port. -/

namespace Sys2Proof.Machine

open Sys2Proof

/-! ### Parameters -/

/-- The value of a parameter in a table. -/
def Table.get (t : Table) (p : Param) : Int := t.getD p.index 0

/-- A table with one value written. -/
def Table.put (t : Table) (p : Param) (v : Int) : Table := t.set p.index v

/-- A parameter of the working table (Settings, 10). -/
def State.param (s : State) (p : Param) : Int := s.settings.working.get p

/-- A parameter of the working table whose range has no negative value. -/
def State.paramN (s : State) (p : Param) : Nat := (s.param p).toNat

/-! ### Sample indices (R33) -/

/-- The sum of an index and a count, modulo 2^40. -/
def idxAdd (a k : Nat) : Nat := (a + k) % count40

/-- The difference of two indices, modulo 2^40. -/
def idxSub (a b : Nat) : Nat := (a + (count40 - b % count40)) % count40

/-- Index `a` lies below index `b` (R33). -/
def idxLt (a b : Nat) : Bool := decide (1 ≤ idxSub b a) && decide (idxSub b a ≤ 549755813887)

/-- Index `a` is `b` or lies below it. -/
def idxLe (a b : Nat) : Bool := decide (idxSub b a ≤ 549755813887)

/-- The newest written index, absent while the ring is empty (R33). -/
def Front.newest (f : Front) : Option Nat :=
  match f.ring with
  | [] => none
  | r :: _ => some r.index

/-- The newest written index, taken as −1 while the ring is empty (R101). -/
def Front.newestIdx (f : Front) : Nat := f.newest.getD (count40 - 1)

/-- The oldest available index: the newest written − 16,383, or 0 when fewer sets have completed since cold start (R33). -/
def Front.oldestIdx (f : Front) : Nat :=
  if f.ring.length < Config.ringLength then 0 else idxSub f.newestIdx (Config.ringLength - 1)

/-- The ring record of a set (R33). -/
def Front.find (f : Front) (i : Nat) : Option SetRec := f.ring.find? fun r => decide (r.index = i)

/-! ### Time -/

/-- The ticks reading (R1): in a lengthened second it holds at 9,999,999. -/
def Timebase.ticks (t : Timebase) : Nat := min t.raw topTick

/-- U in whole ns (1.7.1). -/
def Timebase.u (t : Timebase) : Nat := t.u16 / 16

/-- R23: the time class, from the clock state and U. -/
def Timebase.cls (t : Timebase) : TimeClass :=
  match t.clock with
  | .unset => .none
  | .locked => .lock
  | .holdover =>
    if t.u ≤ 10000 then .fine
    else if t.u ≤ 1000000 then .milli
    else if t.u ≤ 100000000 then .coarse
    else .poor

/-- The stamp of this moment (section 3.1). -/
def State.stamp (s : State) : Stamp := ⟨s.tb.seconds, s.tb.ticks, s.tb.cls⟩

/-- `k` oscillator ticks pass within the second in progress, but never past its last tick: the end of a second is a command
of its own. -/
def State.elapse (s : State) (k : Nat) : State :=
  let room := s.tb.endAt - 1 - s.tb.raw
  { s with tb := { s.tb with raw := s.tb.raw + min k room, osc := s.tb.osc + min k room } }

/-- The oscillator reaches the count `due` within the second in progress: the state at that moment, or `none` when the second
ends first. A moment already past is this moment. DESIGN CHOICE (log entry 49): a count that is reached just as the second ends
is not within it, so the end of the second, with its measurement and level report, is taken first. -/
def State.reach (s : State) (due : Nat) : Option State :=
  if due ≤ s.tb.osc then some s
  else if s.tb.raw + (due - s.tb.osc) < s.tb.endAt then some (s.elapse (due - s.tb.osc))
  else none

/-- R3: a due uptime has been reached. -/
def State.dueNow (s : State) (due : Option Nat) : Bool :=
  match due with
  | some d => decide (d ≤ s.tb.uptime)
  | none => false

/-! ### Attention (9.3) -/

/-- The priority of a cause, 1 the highest (9.3). -/
def Attn.priority : Attn → Nat
  | .restarted => 1
  | .levelChanged => 2
  | .domainFault => 3
  | .leaseEnded => 4
  | .alertWaiting => 5
  | .transitTimeout => 6
  | .eventOpened => 7
  | .eventReady => 8
  | .timeChanged => 9
  | .thermal => 10
  | .settingsChanged => 11
  | .storeDefaulted => 12

/-- The number of a port's routing set (R203). -/
def State.routing (s : State) (p : Port) : Nat :=
  match p with
  | .a => s.paramN .attA
  | .b => s.paramN .attB

/-- R203: a routing set written as a number holds a cause. -/
def routed (mask : Nat) (c : Attn) : Bool := mask.testBit (c.priority - 1)

/-- The highest-priority cause of a pending set (R197). -/
def highest (l : List Attn) : Option Attn :=
  l.foldl (fun best c =>
    match best with
    | none => some c
    | some b => if c.priority < b.priority then some c else some b) none

/-- R196, without the presenting: a cause routed and not pending joins the pending set. -/
def PortRec.take (p : PortRec) (mask : Nat) (c : Attn) : PortRec :=
  if routed mask c && !(p.pending.contains c) then { p with pending := p.pending ++ [c] } else p

/-- R197: a port with nothing presented presents the highest-priority cause of its pending set. -/
def PortRec.present (p : PortRec) : PortRec :=
  match p.presented with
  | some _ => p
  | none => { p with presented := highest p.pending }

/-- R196, R197: a cause is raised toward one port. -/
def State.raise (s : State) (p : Port) (c : Attn) : State :=
  { s with port := s.port.set p ((s.port.get p).take (s.routing p) c).present }

/-- R196: a cause is raised toward both ports, each judging it on its own. -/
def State.raiseBoth (s : State) (c : Attn) : State := (s.raise .a c).raise .b c

/-! ### The port's side of a command (9.2) -/

/-- The response line of the command in progress is placed in the output and the port is RESPONDING (R191). -/
def State.respond (s : State) (p : Port) (line : Text) : State :=
  { s with port := s.port.set p { s.port.get p with state := .responding, line := line, payload := [] } }

/-- The line buffer is emptied and its marks cleared (R187). -/
def PortRec.clearBuffer (p : PortRec) : PortRec :=
  { p with buffer := [], bad := false, overlong := false }

/-- Part of a line has been received (R186, R187, R200): a character of it stands in the buffer or has set a mark. -/
def PortRec.partLine (p : PortRec) : Bool := !p.buffer.isEmpty || p.bad || p.overlong

/-- R192: a line completed while a command is in progress is discarded; the owed BUSY count rises, up to 16. -/
def PortRec.oweBusy (p : PortRec) : PortRec := { p with owed := min Config.owedTop (p.owed + 1) }

/-- R187, R191, R192: a whole line arrives on a port. While skipping, its characters are discarded and its terminator clears
skipping. Otherwise the line completes and the buffer is emptied; in READY it is taken by `act`, in RESPONDING or CLEARING it
is discarded and owed BUSY. -/
def State.takeLine (s : State) (p : Port) (act : State → State) : State :=
  let r := s.port.get p
  if r.skipping then { s with port := s.port.set p { r with skipping := false, afterCr := false } }
  else
    let r := { r.clearBuffer with afterCr := false }
    match r.state with
    | .ready => act { s with port := s.port.set p r }
    | .responding | .clearing => { s with port := s.port.set p r.oweBusy }

/-! ### Small helpers -/

/-- `trunc` of section 3.2. -/
def truncDiv (a b : Int) : Int := Int.tdiv a b

/-- `floor` of section 3.2, for a positive divisor. -/
def floorDiv (a b : Int) : Int := Int.fdiv a b

/-- The id that follows `last` in a sequence over 1..65,535 (section 3.3). -/
def nextId (last : Nat) : Nat := if Config.idTop ≤ last then 1 else last + 1

/-- The first id after `last` that `used` does not hold, within `fuel` candidates (R75, R116). -/
def firstFree (used : Nat → Bool) : Nat → Nat → Nat
  | 0, last => nextId last
  | fuel + 1, last => if used (nextId last) then firstFree used fuel (nextId last) else nextId last

/-- Change the element of a list that `sel` selects. -/
def mapWhere {α : Type} (sel : α → Bool) (f : α → α) (l : List α) : List α :=
  l.map fun x => if sel x then f x else x

end Sys2Proof.Machine
end

