-- ==== Sys2Proof/Machine/Flags.lean ====
section
/-! DEFINITION. The flags the blocks keep: the flags of a record and of a summary, the sets of components, the order of the
severities and of the energy levels, and the classes that count as worse. -/

namespace Sys2Proof.Machine

open Sys2Proof

/-- No flag set (R78, R79). -/
def RecFlags.none : RecFlags := ⟨false, false, false, false, false, false, false, false, false⟩

/-- Flags collect: a flag once set stays set (R86). -/
def RecFlags.add (f g : RecFlags) : RecFlags where
  clipped := f.clipped || g.clipped
  stepped := f.stepped || g.stepped
  interrupted := f.interrupted || g.interrupted
  forced := f.forced || g.forced
  blankedDuring := f.blankedDuring || g.blankedDuring
  prerollShort := f.prerollShort || g.prerollShort
  long := f.long || g.long
  truncated := f.truncated || g.truncated
  noCapture := f.noCapture || g.noCapture

/-- ROUTINE < NOTABLE < URGENT (6.1). -/
def Severity.rank : Severity → Nat
  | .routine => 0
  | .notable => 1
  | .urgent => 2

/-- NORMAL stands above CONSERVE above CRITICAL above DORMANT (8.2). -/
def Level.rank : Level → Nat
  | .normal => 3
  | .conserve => 2
  | .critical => 1
  | .dormant => 0

/-- A set of components with one more member. -/
def orAxis (a b : PerAxis Bool) : PerAxis Bool := ⟨a.z || b.z, a.n || b.n, a.e || b.e⟩

/-- Whether a set of components has a member. -/
def anyAxis (a : PerAxis Bool) : Bool := a.z || a.n || a.e

/-- No component. -/
def noAxis : PerAxis Bool := ⟨false, false, false⟩

/-- The component-wise maximum. -/
def maxAxis (a b : PerAxis Nat) : PerAxis Nat := ⟨max a.z b.z, max a.n b.n, max a.e b.e⟩

/-- The classes from which a move to COARSE or POOR posts DEGRADED (R23). -/
def TimeClass.goodTime : TimeClass → Bool
  | .lock | .fine | .milli => true
  | .coarse | .poor | .none => false

/-- The classes whose entry from a better one posts DEGRADED (R23). -/
def TimeClass.degradedTime : TimeClass → Bool
  | .coarse | .poor => true
  | .lock | .fine | .milli | .none => false

/-- R145: the controller holds its request exactly while HEATING or FALLBACK_ON. -/
def HeaterState.requests : HeaterState → Bool
  | .heating | .fallbackOn => true
  | .heaterOff | .fallbackOff | .lockout | .inhibited | .faulted => false

/-- A suspension cause holds (R57). -/
def Causes.any (c : Causes) : Bool := c.enableOff || c.frontNotRunning || c.dormant

end Sys2Proof.Machine
end

