-- ==== Sys2Proof/Machine/Operands.lean ====
section
/-! DEFINITION. The operands of a command line and the words they are drawn from: tokens (R189), numbers (R190), and the words
the manual names for ports, domains, heaters, channels, severities and outcomes. -/

namespace Sys2Proof

/-! ### Words of ports, domains and heaters (3.4) -/

def Port.name : Port → String
  | .a => "A"
  | .b => "B"

def Domain.name : Domain → String
  | .aux => "AUX"
  | .sensor => "SENSOR"
  | .storage => "STORAGE"
  | .gnss => "GNSS"
  | .modem => "MODEM"
  | .heatBatt => "HEAT_BATT"
  | .heatInst => "HEAT_INST"

def Heater.name : Heater → String
  | .batt => "BATT"
  | .inst => "INST"

/-- The domains, in the fixed order of R167. -/
def Domain.all : List Domain := [.aux, .sensor, .storage, .gnss, .modem, .heatBatt, .heatInst]

end Sys2Proof

namespace Sys2Proof.Machine

open Sys2Proof

/-! ### Tokens and numbers -/

/-- A printable character (R188). -/
def printable (c : Char) : Bool := decide (32 ≤ c.toNat) && decide (c.toNat ≤ 126)

/-- The text from its first character that is no space. -/
def skipSpaces : Text → Text
  | [] => []
  | c :: t => if c = ' ' then skipSpaces t else c :: t

/-- The characters up to the first space. -/
def wordOf : Text → Text
  | [] => []
  | c :: t => if c = ' ' then [] else c :: wordOf t

/-- What stands from the first space on. -/
def restOf : Text → Text
  | [] => []
  | c :: t => if c = ' ' then c :: t else restOf t

/-- Tokens of a text, `fuel` bounding their number. -/
def tokensFrom : Nat → Text → List Text
  | 0, _ => []
  | fuel + 1, t =>
    match skipSpaces t with
    | [] => []
    | c :: u => wordOf (c :: u) :: tokensFrom fuel (restOf (c :: u))

/-- R189: the tokens of a text, separated by one or more spaces. -/
def tokens (t : Text) : List Text := tokensFrom (t.length + 1) t

/-- The value of a decimal digit. -/
def digit (c : Char) : Option Nat :=
  if '0'.toNat ≤ c.toNat ∧ c.toNat ≤ '9'.toNat then some (c.toNat - '0'.toNat) else none

/-- Digits read on from a value. -/
def digitsFrom : Nat → Text → Option Nat
  | n, [] => some n
  | n, c :: t =>
    match digit c with
    | some d => digitsFrom (10 * n + d) t
    | none => none

/-- One or more decimal digits, and nothing else. -/
def natToken : Text → Option Nat
  | [] => none
  | c :: t => digitsFrom 0 (c :: t)

/-- R190: a number is an optional minus sign followed by one or more decimal digits. -/
def numberToken (t : Text) : Option Int :=
  match t with
  | [] => none
  | c :: u => if c = '-' then (natToken u).map fun n => -(n : Int) else (natToken (c :: u)).map fun n => (n : Int)

/-- The arguments of a command that carries numbers alone (R190): all of them, or `none` for SYNTAX. -/
def numberArgs : List Text → Option (List Int)
  | [] => some []
  | t :: ts =>
    match numberToken t, numberArgs ts with
    | some n, some ns => some (n :: ns)
    | _, _ => none

/-! ### Words (3.4) -/

def Channel.name : Channel → String
  | .vault => "VAULT"
  | .osc => "OSC"
  | .batt => "BATT"
  | .sensor => "SENSOR"

def Severity.name : Severity → String
  | .routine => "ROUTINE"
  | .notable => "NOTABLE"
  | .urgent => "URGENT"

def Purpose.name : Purpose → String
  | .routine => "ROUTINE"
  | .alert => "ALERT"

/-- The outcomes of ALR.RESULT (R127). -/
inductive Result
  | delivered
  | failed
  | deferred
  deriving DecidableEq, Repr

def Result.name : Result → String
  | .delivered => "DELIVERED"
  | .failed => "FAILED"
  | .deferred => "DEFERRED"

/-- The member of a list that a word names. -/
def byName {α : Type} (name : α → String) (l : List α) (w : Text) : Option α :=
  l.find? fun x => decide ((name x).toList = w)

/-- A domain's name (R172, R174, R178). -/
def domainWord (w : Text) : Option Domain := byName Domain.name Domain.all w

/-- THM.CLEAR's heater word (R151). -/
def heaterWord (w : Text) : Option Heater := byName Heater.name [.batt, .inst] w

/-- ALR.POST's severity word (R134). -/
def severityWord (w : Text) : Option Severity := byName Severity.name [.routine, .notable, .urgent] w

/-- PWR.LEASE's purpose word (R174). -/
def purposeWord (w : Text) : Option Purpose := byName Purpose.name [.routine, .alert] w

/-- ALR.RESULT's outcome word (R127). -/
def resultWord (w : Text) : Option Result := byName Result.name [.delivered, .failed, .deferred] w

/-- A setting's name, compared character for character (R204, R207). -/
def paramWord (w : Text) : Option Param := byName (fun p => p.row.name) Param.all w

/-- The leasable domains among the seven (R173). -/
def leasable : Domain → Option LeaseDomain
  | .modem => some .modem
  | .storage => some .storage
  | .aux | .sensor | .gnss | .heatBatt | .heatInst => none

def LeaseDomain.domain : LeaseDomain → Domain
  | .modem => .modem
  | .storage => .storage

/-! ### The two formats taken from outside devices (R212) -/

/-- A byte of a line as a character. -/
def byteChar (b : Byte) : Char := Char.ofNat b.toNat

/-- R212: a line that is a time message: exactly four tokens TT, seconds, V or N, satellites; at most 40 characters, each within
32..126, none with a framing error. `arrival` is the oscillator count at its terminator. -/
def timeMessageOf (line : List Byte) (framing : Bool) (arrival : Nat) : Option Message :=
  let t := line.map byteChar
  if framing || !(t.all printable) || decide (Config.messageLength < t.length) then none
  else
    match tokens t with
    | [tt, sec, mark, sats] =>
      match natToken sec, natToken sats with
      | some n, some k =>
        if tt = "TT".toList ∧ n < count40 ∧ k ≤ 99 ∧ (mark = ['V'] ∨ mark = ['N']) then
          some ⟨n, decide (mark = ['V']), k, arrival⟩
        else none
      | _, _ => none
    | _ => none

/-- A 24-bit two's-complement number of three bytes, most significant first (R212). -/
def sample24 (x y z : Byte) : Int := (x ++ y ++ z).toInt

/-- A well-formed digitizer frame (R212). -/
structure Frame where
  sequence : Nat
  fault : Bool
  clipped : PerAxis Bool
  sample : PerAxis Int
  deriving DecidableEq, Repr

/-- R212: the frame of a closed run of bytes; malformed with fewer than eleven bytes or a framing error among the first eleven.
Bytes after the eleventh are discarded. -/
def frameOf (bytes : List Byte) (framing : Bool) : Option Frame :=
  if framing then none
  else
    match bytes with
    | st :: sq :: z0 :: z1 :: z2 :: n0 :: n1 :: n2 :: e0 :: e1 :: e2 :: _ =>
      some
        { sequence := sq.toNat
          fault := st.getLsbD 3
          clipped := ⟨st.getLsbD 0, st.getLsbD 1, st.getLsbD 2⟩
          sample := ⟨sample24 z0 z1 z2, sample24 n0 n1 n2, sample24 e0 e1 e2⟩ }
    | _ => none

end Sys2Proof.Machine
end

