-- ==== Sys2Proof/Machine/Render.lean ====
section
/-! DEFINITION. The written forms of R213: the status word, the command word, the fields `key=value`, and the forms of the values
they hold. The fields of each response stand with the command that gives it. -/

namespace Sys2Proof.Machine

open Sys2Proof

/-- The status words (About This Manual, 3.5). -/
inductive Status
  | ok
  | clamped
  | busy
  | badSyntax
  | unknown
  | range
  | state
  | stale
  | level
  | full
  | missing
  deriving DecidableEq, Repr

def Status.name : Status → String
  | .ok => "OK"
  | .clamped => "CLAMPED"
  | .busy => "BUSY"
  | .badSyntax => "SYNTAX"
  | .unknown => "UNKNOWN"
  | .range => "RANGE"
  | .state => "STATE"
  | .stale => "STALE"
  | .level => "LEVEL"
  | .full => "FULL"
  | .missing => "MISSING"

/-- The end of a response line (R213). -/
def crlf : Text := [Char.ofNat 13, Char.ofNat 10]

/-- Texts joined by a separator. -/
def joinWith (sep : Char) : List Text → Text
  | [] => []
  | [t] => t
  | t :: u :: ts => t ++ sep :: joinWith sep (u :: ts)

/-- R213: a response line of tokens separated by single spaces. -/
def lineOf (ts : List Text) : Text := joinWith ' ' ts ++ crlf

/-- R213: the status word, the command word and the fields. -/
def reply (st : Status) (command : String) (fields : List Text) : Text :=
  lineOf (st.name.toList :: command.toList :: fields)

/-- R213: a line that carries no command word. -/
def bareReply (st : Status) : Text := lineOf [st.name.toList]

/-- A field (R213). -/
def field (key : String) (value : Text) : Text := key.toList ++ '=' :: value

/-- A number without a sign (R213). -/
def natText (n : Nat) : Text := Nat.toDigits 10 n

/-- A number, with a leading minus sign when negative (R213). -/
def intText : Int → Text
  | .ofNat n => natText n
  | .negSucc n => '-' :: natText (n + 1)

/-- An absent field is written `*` (R213). -/
def optText {α : Type} (f : α → Text) : Option α → Text
  | none => ['*']
  | some x => f x

/-- A field that holds yes or no (11.2.4). -/
def yesNo (b : Bool) : Text := if b then "YES".toList else "NO".toList

/-- A set or a list: the members joined by commas, `-` when there is none (R213). -/
def listText (l : List Text) : Text :=
  match l with
  | [] => ['-']
  | t :: ts => joinWith ',' (t :: ts)

/-- An entry with several parts (R213). -/
def partsText (l : List Text) : Text := joinWith ':' l

/-- A number in exactly `k` digits (R213's stamps). -/
def padded (k n : Nat) : Text :=
  let t := natText n
  List.replicate (k - t.length) '0' ++ t

def TimeClass.name : TimeClass → String
  | .lock => "LOCK"
  | .fine => "FINE"
  | .milli => "MILLI"
  | .coarse => "COARSE"
  | .poor => "POOR"
  | .none => "NONE"

/-- A stamp: seconds, a full stop, ticks as seven digits, a slash, the class (R213). -/
def stampText (t : Stamp) : Text :=
  natText t.seconds ++ '.' :: padded 7 t.ticks ++ '/' :: t.cls.name.toList

/-- A set of components: the letters present, in the order Z, N, E; the empty set as `-` (R213). -/
def axesText (a : PerAxis Bool) : Text :=
  match (if a.z then ['Z'] else []) ++ (if a.n then ['N'] else []) ++ (if a.e then ['E'] else []) with
  | [] => ['-']
  | c :: t => c :: t

/-- The words of the flags that are set, in the order given (R213). -/
def setText (l : List (Bool × String)) : Text :=
  listText ((l.filter fun x => x.1).map fun x => x.2.toList)

/-- The flags of a record, in the order of the record table (R213). -/
def recFlagsText (f : RecFlags) : Text :=
  setText [(f.clipped, "CLIPPED"), (f.stepped, "STEPPED"), (f.interrupted, "INTERRUPTED"), (f.forced, "FORCED"),
    (f.blankedDuring, "BLANKED_DURING"), (f.prerollShort, "PREROLL_SHORT"), (f.long, "LONG"), (f.truncated, "TRUNCATED"),
    (f.noCapture, "NO_CAPTURE")]

/-- The flags of a quake summary, in the order in which 6.1 names them. -/
def summaryFlagsText (q : Summary) : Text :=
  setText [(q.clipped, "CLIPPED"), (q.blankedDuring, "BLANKED_DURING"), (q.forced, "FORCED"),
    (q.interrupted, "INTERRUPTED")]

/-- The alert link (R213). -/
def linkText : Link → Text
  | .none => "NONE".toList
  | .queued id => "QUEUED/".toList ++ natText id
  | .delivered r => "DELIVERED/".toList ++ natText r
  | .lost => "LOST".toList

/-- A cause with its qualifier after a slash (R213). -/
def Cause.text : Cause → Text
  | .degraded => "DEGRADED".toList
  | .sessions => "SESSIONS".toList
  | .step => "STEP".toList
  | .catalogueFull => "CATALOGUE_FULL".toList
  | .blocksExhausted => "BLOCKS_EXHAUSTED".toList
  | .conserve => "CONSERVE".toList
  | .critical => "CRITICAL".toList
  | .dormant => "DORMANT".toList
  | .domainFault d => "DOMAIN_FAULT/".toList ++ d.name.toList
  | .channelFault c => "CHANNEL_FAULT/".toList ++ c.name.toList
  | .vaultCold => "VAULT_COLD".toList
  | .heaterLockout h => "HEATER_LOCKOUT/".toList ++ h.name.toList
  | .master p => p.name.toList

/-- The kind of an alert (R115): QUAKE when it has no cause. -/
def kindText : Option Cause → Text
  | none => "QUAKE".toList
  | some .degraded | some .sessions | some .step => "TIME".toList
  | some .catalogueFull | some .blocksExhausted => "STORE".toList
  | some .conserve | some .critical | some .dormant | some (.domainFault _) => "POWER".toList
  | some (.channelFault _) | some .vaultCold | some (.heaterLockout _) => "THERMAL".toList
  | some (.master _) => "MASTER".toList

def Attn.name : Attn → String
  | .restarted => "RESTARTED"
  | .levelChanged => "LEVEL_CHANGED"
  | .domainFault => "DOMAIN_FAULT"
  | .leaseEnded => "LEASE_ENDED"
  | .alertWaiting => "ALERT_WAITING"
  | .transitTimeout => "TRANSIT_TIMEOUT"
  | .eventOpened => "EVENT_OPENED"
  | .eventReady => "EVENT_READY"
  | .timeChanged => "TIME_CHANGED"
  | .thermal => "THERMAL"
  | .settingsChanged => "SETTINGS_CHANGED"
  | .storeDefaulted => "STORE_DEFAULTED"

def Level.name : Level → String
  | .normal => "NORMAL"
  | .conserve => "CONSERVE"
  | .critical => "CRITICAL"
  | .dormant => "DORMANT"

def ClockState.name : ClockState → String
  | .unset => "UNSET"
  | .holdover => "HOLDOVER"
  | .locked => "LOCKED"

def Session.name : Session → String
  | .idle => "IDLE"
  | .powering => "POWERING"
  | .seeking => "SEEKING"
  | .tracking => "TRACKING"

def FrontState.name : FrontState → String
  | .stopped => "STOPPED"
  | .settling => "SETTLING"
  | .running => "RUNNING"
  | .linkLost => "LINK_LOST"

def CompState.name : CompState → String
  | .priming => "PRIMING"
  | .quiet => "QUIET"
  | .arming => "ARMING"
  | .triggered => "TRIGGERED"

def Station.name : Station → String
  | .suspended => "SUSPENDED"
  | .quiet => "QUIET"
  | .active => "ACTIVE"
  | .post => "POST"

def Kind.name : Kind → String
  | .event => "EVENT"
  | .manual => "MANUAL"

def RecordState.name : RecordState → String
  | .opened => "OPEN"
  | .closed => "CLOSED"
  | .released => "RELEASED"

def Capture.name : Capture → String
  | .none => "NONE"
  | .running => "RUNNING"
  | .complete => "COMPLETE"
  | .truncated => "TRUNCATED"
  | .cancelled => "CANCELLED"

def JobState.name : JobState → String
  | .waitingData => "WAITING_DATA"
  | .waitingBlock => "WAITING_BLOCK"
  | .copying => "COPYING"

def HeaterState.name : HeaterState → String
  | .heaterOff => "HEATER_OFF"
  | .heating => "HEATING"
  | .fallbackOn => "FALLBACK_ON"
  | .fallbackOff => "FALLBACK_OFF"
  | .lockout => "LOCKOUT"
  | .inhibited => "INHIBITED"
  | .faulted => "FAULTED"

def DomState.name : DomState → String
  | .off => "OFF"
  | .waiting => "WAITING"
  | .rising => "RISING"
  | .on => "ON"
  | .fault => "FAULT"

def EndReason.name : EndReason → String
  | .expired => "EXPIRED"
  | .released => "RELEASED"
  | .revoked => "REVOKED"
  | .fault => "FAULT"

def Reading.name : Reading → String
  | .good => "GOOD"
  | .faulty => "FAULTY"

/-! ### Bytes of the WAV.READ payload (R214) -/

/-- The byte of weight `256^k` of a number; for a negative number, of its two's complement. -/
def byteOf (x : Int) (k : Nat) : Byte := BitVec.ofInt 8 (Int.fdiv x (256 ^ k))

/-- `k` bytes of a number, most significant first (R214). -/
def bytesOf : Nat → Int → List Byte
  | 0, _ => []
  | k + 1, x => byteOf x k :: bytesOf k x

/-- The payload's code of a class (R214). -/
def TimeClass.code : TimeClass → Nat
  | .lock => 0
  | .fine => 1
  | .milli => 2
  | .coarse => 3
  | .poor => 4
  | .none => 5

/-- The payload's flags byte (R214). -/
def SetRec.flagByte (r : SetRec) : Nat :=
  r.missing.toNat + 2 * r.clipped.z.toNat + 4 * r.clipped.n.toNat + 8 * r.clipped.e.toNat + 16 * r.step.toNat
    + 32 * r.blanked.toNat

/-- R214: the 24 bytes of one set. -/
def SetRec.bytes (r : SetRec) : List Byte :=
  bytesOf 5 r.index ++ bytesOf 5 r.stamp.seconds ++ bytesOf 3 r.stamp.ticks ++ bytesOf 1 r.stamp.cls.code
    ++ bytesOf 1 r.flagByte ++ bytesOf 3 r.sample.z ++ bytesOf 3 r.sample.n ++ bytesOf 3 r.sample.e

end Sys2Proof.Machine
end

