-- ==== Sys2Proof/Machine/AlertQueue.lean ====
section
/-! DEFINITION. Alerts and the Uplink Handoff (06, R115 to R139), with the alert link reports the queue makes to the Event
Catalogue (R87). -/

namespace Sys2Proof.Machine

open Sys2Proof

/-! ### A command line's shape (R190) -/

/-- A command that carries no argument: a line with one is SYNTAX (R190). -/
def State.noArg (s : State) (p : Port) (command : String) (args : Text) (act : State → State) : State :=
  if (tokens args).isEmpty then act s else s.respond p (reply .badSyntax command [])

/-- A command that carries `k` numbers: another count, or a token that is no number, is SYNTAX (R190). -/
def State.withNumbers (s : State) (p : Port) (command : String) (k : Nat) (args : Text) (act : List Int → State → State) :
    State :=
  match numberArgs (tokens args) with
  | some ns => if ns.length = k then act ns s else s.respond p (reply .badSyntax command [])
  | none => s.respond p (reply .badSyntax command [])

/-- A record id or alert id within 1..65,535. -/
def idInRange (n : Int) : Bool := decide (1 ≤ n) && decide (n ≤ (Config.idTop : Int))

/-! ### Severities, times to live, order -/

/-- R115: the severity each cause fixes; a MASTER alert's is given by ALR.POST. -/
def Cause.severity : Cause → Severity
  | .degraded => .notable
  | .sessions => .routine
  | .step => .notable
  | .catalogueFull => .notable
  | .blocksExhausted => .notable
  | .conserve => .routine
  | .critical => .urgent
  | .dormant => .urgent
  | .domainFault _ => .notable
  | .channelFault _ => .routine
  | .vaultCold => .routine
  | .heaterLockout _ => .notable
  | .master _ => .routine

/-- The time to live of a severity (6.1). -/
def State.ttl (s : State) : Severity → Nat
  | .routine => s.paramN .alrTtlRoutine
  | .notable => s.paramN .alrTtlNotable
  | .urgent => s.paramN .alrTtlUrgent

/-- R121: the largest peak among the components whose weight is above 0, or 0. -/
def State.weighedPeak (s : State) (peak : PerAxis Nat) : Nat :=
  max (if 0 < s.paramN .trigWeightZ then peak.z else 0)
    (max (if 0 < s.paramN .trigWeightN then peak.n else 0) (if 0 < s.paramN .trigWeightE then peak.e else 0))

/-- R121: the severity of a quake. -/
def State.quakeSeverity (s : State) (peak : PerAxis Nat) : Severity :=
  if s.paramN .alrUrgent ≤ s.weighedPeak peak then .urgent
  else if s.paramN .alrNotable ≤ s.weighedPeak peak then .notable
  else .routine

/-- R121: a severity qualifies for a new alert. -/
def State.qualifies (s : State) : Severity → Bool
  | .routine => decide (s.paramN .alrRoutine = 1)
  | .notable | .urgent => true

/-- R117: `x` stands before `y` in queue order. -/
def Alert.before (x y : Alert) : Bool :=
  decide (y.severity.rank < x.severity.rank)
    || (decide (x.severity.rank = y.severity.rank)
      && (decide (x.createdUptime < y.createdUptime)
        || (decide (x.createdUptime = y.createdUptime) && decide (x.joined < y.joined))))

/-- R117: an alert takes its place in queue order. -/
def insertAlert (x : Alert) : List Alert → List Alert
  | [] => [x]
  | y :: l => if x.before y then x :: y :: l else y :: insertAlert x l

/-- The alert with an id, out of the queue. -/
def removeAlert (id : Nat) (l : List Alert) : List Alert := l.filter fun x => decide (x.id ≠ id)

/-- The alert with an id. -/
def AlertQueue.find (q : AlertQueue) (id : Nat) : Option Alert := q.alerts.find? fun x => decide (x.id = id)

/-- The alert IN_TRANSIT (R117). -/
def AlertQueue.inTransit (q : AlertQueue) : Option Alert := q.alerts.find? fun x => x.transit.isSome

/-- The first QUEUED alert in queue order (R126). -/
def AlertQueue.head (q : AlertQueue) : Option Alert := q.alerts.find? fun x => x.transit.isNone

/-- R136: a counter rises by one, saturating. -/
def countUp (n : Nat) : Nat := satNat 4294967295 (n + 1)

/-! ### Reports -/

/-- R87: the Catalogue writes a reported link into the EVENT record with the event id; a report for an id that names no record
is discarded. An alert without an event id makes no report (R120). -/
def State.linkReport (s : State) (event : Option Nat) (l : Link) : State :=
  match event with
  | none => s
  | some id =>
    { s with
      cat :=
        { s.cat with
          records := mapWhere (fun r => decide (r.id = id ∧ r.kind = .event)) (fun r => { r with link := l }) s.cat.records } }

/-- R122: the track moves when the alert concerned is the one tracked. -/
def AlertQueue.moveTrack (q : AlertQueue) (id : Nat) (t : TrackState) : AlertQueue :=
  match q.track with
  | some tr => if tr.state = .alert id then { q with track := some { tr with state := t } } else q
  | none => q

/-- R120: an alert that was dropped, discarded or has expired is reported LOST, and its track becomes LOST. -/
def State.reportLost (s : State) (x : Alert) : State :=
  let s := s.linkReport x.event .lost
  { s with alerts := s.alerts.moveTrack x.id .lost }

/-- R133: ALERT_WAITING is raised when a QUEUED alert exists and none is in transit. -/
def State.judgeWaiting (s : State) : State :=
  if s.alerts.head.isSome && s.alerts.inTransit.isNone then s.raiseBoth .alertWaiting else s

/-! ### Joining the queue (R116, R117, R119) -/

/-- R116: the id the next alert to join takes. -/
def AlertQueue.freshId (q : AlertQueue) : Nat :=
  firstFree (fun n => q.alerts.any fun x => decide (x.id = n)) (Config.queuePlaces + 1) q.lastId

/-- An alert joins a queue with room: it takes its id and its place, and a QUAKE alert is reported QUEUED (R120). -/
def State.place (s : State) (x : Alert) : State :=
  let id := s.alerts.freshId
  let x := { x with id := id, joined := s.alerts.nextJoin }
  let s :=
    { s with
      alerts :=
        { s.alerts with
          alerts := insertAlert x s.alerts.alerts
          lastId := id
          nextJoin := s.alerts.nextJoin + 1 } }
  s.linkReport x.event (.queued id)

/-- The lowest severity among the QUEUED alerts, as a rank. -/
def AlertQueue.lowestRank (q : AlertQueue) : Nat :=
  ((q.alerts.filter fun x => x.transit.isNone).map fun x => x.severity.rank).foldl min 3

/-- R119: the QUEUED alert of the lowest severity with the earliest created uptime. -/
def AlertQueue.victim (q : AlertQueue) : Option Alert :=
  q.alerts.find? fun x => x.transit.isNone && decide (x.severity.rank = q.lowestRank)

/-- R119: an alert in the queue is dropped. -/
def State.dropHeld (s : State) (x : Alert) : State :=
  let s :=
    { s with
      alerts := { s.alerts with alerts := removeAlert x.id s.alerts.alerts, dropped := countUp s.alerts.dropped } }
  s.reportLost x

/-- R119: the new alert is dropped without joining; it takes no id. -/
def State.dropNew (s : State) (x : Alert) : State :=
  { (s.linkReport x.event .lost) with alerts := { s.alerts with dropped := countUp s.alerts.dropped } }

/-- R119: whether a new alert of this severity joins, and with which held alert dropped for it. -/
def AlertQueue.admits (q : AlertQueue) (sev : Severity) : Option (Option Alert) :=
  if q.alerts.length < Config.queuePlaces then some none
  else
    match q.victim with
    | some v => if v.severity.rank < sev.rank then some (some v) else none
    | none => none

/-- R119: a new alert meets the queue. It joins, and ALERT_WAITING is judged (R133), or it is dropped. -/
def State.join (s : State) (x : Alert) : State :=
  match s.alerts.admits x.severity with
  | some none => (s.place x).judgeWaiting
  | some (some v) => ((s.dropHeld v).place x).judgeWaiting
  | none => s.dropNew x

/-- A new alert of this moment (R118, R123, R124, R128), before it has an id. -/
def State.newAlert (s : State) (cause : Option Cause) (sev : Severity) (event : Option Nat) (quake : Option Summary)
    (text : Text) : Alert where
  id := 0
  cause := cause
  severity := sev
  created := s.stamp
  createdUptime := s.tb.uptime
  expiry := s.tb.uptime + s.ttl sev
  attempts := 0
  transit := none
  repeats := 0
  event := event
  quake := quake
  pending := none
  text := text
  joined := 0

/-! ### Posting a non-quake alert (R118) -/

/-- The alert of a cause held in the queue (R118). -/
def AlertQueue.ofCause (q : AlertQueue) (c : Cause) : Option Alert := q.alerts.find? fun x => decide (x.cause = some c)

/-- R118: the held alert of a cause gains a repeat. -/
def AlertQueue.repeated (q : AlertQueue) (c : Cause) : AlertQueue :=
  { q with
    alerts :=
      mapWhere (fun x => decide (x.cause = some c)) (fun x => { x with repeats := satNat 255 (x.repeats + 1) }) q.alerts }

/-- R118: a non-quake alert is posted, with the severity and the text of a MASTER alert. -/
def State.postAs (s : State) (c : Cause) (sev : Severity) (text : Text) : State :=
  match s.alerts.ofCause c with
  | some _ => { s with alerts := s.alerts.repeated c }
  | none => s.join (s.newAlert (some c) sev none none text)

/-- R118, R115: a block posts an alert of a cause. -/
def State.post (s : State) (c : Cause) : State := s.postAs c c.severity []

/-! ### Quake alerts (R122 to R125) -/

/-- R123: the queue takes an event's opening: the track is formed, and a preliminary alert if alr.early and the severity
allow it. -/
def State.openAlert (s : State) (event : Option Nat) (summary : Summary) : State :=
  let s := { s with alerts := { s.alerts with track := some ⟨event, .none⟩ } }
  let sev := s.quakeSeverity summary.peak
  if s.paramN .alrEarly = 1 ∧ s.qualifies sev = true then
    let x := s.newAlert none sev event (some summary) []
    let state := if (s.alerts.admits sev).isSome then TrackState.none else .lost
    let s := s.join x
    let state := if state = .none then TrackState.alert s.alerts.lastId else state
    { s with alerts := { s.alerts with track := some ⟨event, state⟩ } }
  else s

/-- R125: a QUAKE alert in the queue takes a final summary, keeping its revision number, and is re-filed. -/
def reviseAlert (l : List Alert) (x : Alert) (r : Revision) : List Alert :=
  insertAlert
    { x with
      quake := some { r.summary with revision := (x.quake.map fun q => q.revision).getD 0 }
      severity := r.severity
      pending := none }
    (removeAlert x.id l)

/-- R124: the queue takes an event's close: `summary` is the final summary. The track is discarded. -/
def State.closeAlert (s : State) (summary : Summary) : State :=
  match s.alerts.track with
  | none => s
  | some tr =>
    let sev := s.quakeSeverity summary.peak
    let s :=
      match tr.state with
      | .alert id =>
        match s.alerts.find id with
        | none => s
        | some x =>
          match x.transit with
          | none => { s with alerts := { s.alerts with alerts := reviseAlert s.alerts.alerts x ⟨summary, sev⟩ } }
          | some _ =>
            { s with
              alerts :=
                { s.alerts with
                  alerts :=
                    mapWhere (fun y => decide (y.id = id)) (fun y => { y with pending := some ⟨summary, sev⟩ })
                      s.alerts.alerts } }
      | .delivered n => s.join (s.newAlert none sev tr.event (some { summary with revision := n + 1 }) [])
      | .none | .lost =>
        if s.qualifies sev then s.join (s.newAlert none sev tr.event (some { summary with revision := 0 }) []) else s
    { s with alerts := { s.alerts with track := none } }

/-! ### The handoff (R126 to R132) -/

/-- R132: a QUEUED alert expires. -/
def State.expire (s : State) (x : Alert) : State :=
  let s :=
    { s with
      alerts := { s.alerts with alerts := removeAlert x.id s.alerts.alerts, expired := countUp s.alerts.expired } }
  s.reportLost x

/-- R129, R130, R139: an alert IN_TRANSIT returns to QUEUED with `attempts`. The transit timer stops, a pending revision is
applied (R125), and the alert is judged for expiry (R132). -/
def State.returnAlert (s : State) (x : Alert) (attempts : Nat) : State :=
  let y := { x with transit := none, attempts := attempts }
  let l := mapWhere (fun z => decide (z.id = x.id)) (fun _ => y) s.alerts.alerts
  let l :=
    match x.pending with
    | some r => reviseAlert l y r
    | none => l
  let s := { s with alerts := { s.alerts with alerts := l, transitDue := none } }
  if x.expiry ≤ s.tb.uptime then s.expire x else s

/-- R129: the outcome FAILED. -/
def State.failAlert (s : State) (x : Alert) : State :=
  if s.paramN .alrAttempts ≤ x.attempts + 1 then
    let s :=
      { s with
        alerts :=
          { s.alerts with
            alerts := removeAlert x.id s.alerts.alerts
            undeliverable := countUp s.alerts.undeliverable
            transitDue := none } }
    (s.reportLost x).judgeWaiting
  else (s.returnAlert x (x.attempts + 1)).judgeWaiting

/-- R130: the outcome DEFERRED. -/
def State.deferAlert (s : State) (x : Alert) : State := (s.returnAlert x x.attempts).judgeWaiting

/-- R128: the outcome DELIVERED. -/
def State.deliverAlert (s : State) (x : Alert) : State :=
  let rev := (x.quake.map fun q => q.revision).getD 0
  let s :=
    { s with
      alerts :=
        { s.alerts with
          alerts := removeAlert x.id s.alerts.alerts
          delivered := countUp s.alerts.delivered
          transitDue := none } }
  let s := s.linkReport x.event (.delivered rev)
  let s := { s with alerts := s.alerts.moveTrack x.id (.delivered rev) }
  let s :=
    match x.pending with
    | some r => s.join (s.newAlert none r.severity x.event (some { r.summary with revision := rev + 1 }) [])
    | none => s
  s.judgeWaiting

/-- R127: ALR.RESULT's outcome is taken for the alert in transit. -/
def State.takeResult (s : State) (x : Alert) : Result → State
  | .delivered => s.deliverAlert x
  | .failed => s.failAlert x
  | .deferred => s.deferAlert x

/-- R131: the transit timer falls due. The event comes about only while a timer runs whose due uptime has been reached. -/
def State.transitTimeout (s : State) : State :=
  match s.alerts.inTransit with
  | some x =>
    match x.transit with
    | some p =>
      if s.dueNow s.alerts.transitDue then
        let s := s.failAlert x
        let s := { s with alerts := { s.alerts with timeouts := countUp s.alerts.timeouts } }
        s.raise p .transitTimeout
      else s
    | none => s
  | none => s

/-- R132: every QUEUED alert whose expiry is at or below the uptime expires; the list is the queue as it stood. -/
def State.expireAll (s : State) : List Alert → State
  | [] => s
  | x :: l => State.expireAll (if x.transit.isNone && decide (x.expiry ≤ s.tb.uptime) then s.expire x else s) l

/-- R117, R175: whether an alert of severity NOTABLE or URGENT is QUEUED or IN_TRANSIT. -/
def AlertQueue.holdsNotable (q : AlertQueue) : Bool := q.alerts.any fun x => decide (1 ≤ x.severity.rank)

/-! ### The commands (R126, R127, R134, R135) -/

/-- The fields of a quake summary (11.2.3). -/
def summaryFields (q : Summary) : List Text :=
  [field "onset" (stampText q.onset), field "peak.z" (natText q.peak.z), field "peak.n" (natText q.peak.n),
    field "peak.e" (natText q.peak.e), field "ratio.z" (natText q.ratio.z), field "ratio.n" (natText q.ratio.n),
    field "ratio.e" (natText q.ratio.e), field "duration" (optText natText q.duration), field "flags" (summaryFlagsText q),
    field "version" (if q.final then "FINAL".toList else "PRELIMINARY".toList), field "revision" (natText q.revision)]

/-- R126, 11.2.3: the content of an alert. -/
def Alert.content (x : Alert) : List Text :=
  [field "id" (natText x.id), field "kind" (kindText x.cause)]
    ++ (match x.cause with
        | some c => [field "cause" c.text]
        | none => [])
    ++ [field "severity" x.severity.name.toList, field "created" (stampText x.created),
      field "attempts" (natText x.attempts), field "repeats" (natText x.repeats), field "event" (optText natText x.event)]
    ++ (match x.quake with
        | some q => summaryFields q
        | none => [])
    ++ (match x.cause with
        | some (.master _) => [field "text" x.text]
        | _ => [])

/-- R126: ALR.FETCH. -/
def cmdAlrFetch (p : Port) (args : Text) (s : State) : State :=
  s.noArg p "ALR.FETCH" args fun s =>
    match s.alerts.inTransit with
    | some x =>
      if x.transit = some p then s.respond p (reply .ok "ALR.FETCH" x.content)
      else s.respond p (reply .state "ALR.FETCH" [])
    | none =>
      match s.alerts.head with
      | none => s.respond p (reply .missing "ALR.FETCH" [])
      | some x =>
        let s :=
          { s with
            alerts :=
              { s.alerts with
                alerts := mapWhere (fun y => decide (y.id = x.id)) (fun y => { y with transit := some p }) s.alerts.alerts
                transitDue := some (s.tb.uptime + s.paramN .alrTransit) } }
        s.respond p (reply .ok "ALR.FETCH" x.content)

/-- R127: ALR.RESULT. -/
def cmdAlrResult (p : Port) (args : Text) (s : State) : State :=
  match tokens args with
  | [t, w] =>
    match numberToken t, resultWord w with
    | some n, some r =>
      if idInRange n then
        match s.alerts.inTransit with
        | some x =>
          if x.transit = some p ∧ x.id = n.toNat then
            (s.takeResult x r).respond p
              (reply .ok "ALR.RESULT" [field "id" (natText x.id), field "outcome" r.name.toList])
          else s.respond p (reply .stale "ALR.RESULT" [])
        | none => s.respond p (reply .stale "ALR.RESULT" [])
      else s.respond p (reply .range "ALR.RESULT" [])
    | _, _ => s.respond p (reply .badSyntax "ALR.RESULT" [])
  | _ => s.respond p (reply .badSyntax "ALR.RESULT" [])

/-- R134: ALR.POST's severity word and text: the text is the rest of the line after the word and one space. -/
def postArgs (args : Text) : Option (Severity × Text) :=
  let t := skipSpaces args
  match severityWord (wordOf t), restOf t with
  | some sev, _ :: text => if (skipSpaces text).isEmpty || !(text.all printable) then none else some (sev, text)
  | _, _ => none

/-- R134: ALR.POST. -/
def cmdAlrPost (p : Port) (args : Text) (s : State) : State :=
  match postArgs args with
  | none => s.respond p (reply .badSyntax "ALR.POST" [])
  | some (sev, text) =>
    if Config.textLength < text.length then s.respond p (reply .range "ALR.POST" [])
    else
      let t := s.postAs (.master p) sev text
      match t.alerts.ofCause (.master p) with
      | some x => t.respond p (reply .ok "ALR.POST" [field "id" (natText x.id)])
      | none => t.respond p (reply .full "ALR.POST" [])

/-- An entry of ALR.LIST (11.2.3). -/
def Alert.entry (x : Alert) : Text :=
  partsText
    [natText x.id, kindText x.cause, optText Cause.text x.cause, x.severity.name.toList,
      (match x.transit with
        | none => "QUEUED".toList
        | some p => "IN_TRANSIT/".toList ++ p.name.toList),
      natText x.attempts, natText x.repeats, optText natText x.event, natText x.createdUptime, natText x.expiry,
      optText (fun q => if q.final then "FINAL".toList else "PRELIMINARY".toList) x.quake,
      optText (fun q => natText q.revision) x.quake, yesNo x.pending.isSome]

/-- The track field of ALR.LIST (11.2.4). -/
def trackText : Option Track → Text
  | none => ['*']
  | some ⟨_, .none⟩ => "NONE".toList
  | some ⟨_, .alert id⟩ => "ALERT/".toList ++ natText id
  | some ⟨_, .delivered r⟩ => "DELIVERED/".toList ++ natText r
  | some ⟨_, .lost⟩ => "LOST".toList

/-- R135: the snapshot of the queue. -/
def AlertQueue.fields (q : AlertQueue) : List Text :=
  [field "alerts" (natText q.alerts.length),
    field "queued" (natText (q.alerts.filter fun x => x.transit.isNone).length),
    field "transit" (optText (fun p : Port => p.name.toList) (q.inTransit.bind fun x => x.transit))]
    ++ (match q.transitDue with
        | some d => [field "transit_due" (natText d)]
        | none => [])
    ++ [field "delivered" (natText q.delivered), field "dropped" (natText q.dropped), field "expired" (natText q.expired),
      field "undeliverable" (natText q.undeliverable), field "timeouts" (natText q.timeouts),
      field "last_id" (natText q.lastId), field "track" (trackText q.track)]
    ++ q.alerts.map fun x => field "alert" x.entry

/-- R135: ALR.LIST. -/
def cmdAlrList (p : Port) (args : Text) (s : State) : State :=
  s.noArg p "ALR.LIST" args fun s => s.respond p (reply .ok "ALR.LIST" s.alerts.fields)

/-! ### Restart (R139) -/

/-- R139: an alert in transit returns to QUEUED with its attempts unchanged; the link is not reported. ALERT_WAITING is raised
when a QUEUED alert exists after these steps. -/
def State.restartAlerts (s : State) : State :=
  let s :=
    match s.alerts.inTransit with
    | some x => s.returnAlert x x.attempts
    | none => s
  s.judgeWaiting

/-! ### The meanings of this family -/

def execAlrFetch (p : Port) (args : Text) (s : State) : Host.Outcome State Fault Refusal :=
  .next (s.takeLine p (cmdAlrFetch p args))

def execAlrResult (p : Port) (args : Text) (s : State) : Host.Outcome State Fault Refusal :=
  .next (s.takeLine p (cmdAlrResult p args))

/-- R131. -/
def execTransitTimerDue (s : State) : Host.Outcome State Fault Refusal := .next s.transitTimeout

/-- R132: alerts that expire together are removed together. R133 raises no ALERT_WAITING for an expiry. -/
def execAlertExpiry (s : State) : Host.Outcome State Fault Refusal := .next (s.expireAll s.alerts.alerts)

def execAlrPost (p : Port) (args : Text) (s : State) : Host.Outcome State Fault Refusal :=
  .next (s.takeLine p (cmdAlrPost p args))

def execAlrList (p : Port) (args : Text) (s : State) : Host.Outcome State Fault Refusal :=
  .next (s.takeLine p (cmdAlrList p args))

end Sys2Proof.Machine
end

