-- ==== Sys2Proof/Machine/Catalogue.lean ====
section
/-! DEFINITION. The Event Catalogue (04, R72 to R93): ids and eviction, the two ways a record is created, the reports that write
into a record, pins, and the commands EVT.LIST and EVT.READ. EVT.RELEASE stands with the store, which takes the blocks back. -/

namespace Sys2Proof.Machine

open Sys2Proof

/-! ### Ids, slots and eviction (R74 to R77) -/

/-- The record with an id. -/
def Catalogue.find (c : Catalogue) (id : Nat) : Option Record := c.records.find? fun r => decide (r.id = id)

/-- A change of the record with an id. -/
def Catalogue.update (c : Catalogue) (id : Nat) (f : Record → Record) : Catalogue :=
  { c with records := mapWhere (fun r => decide (r.id = id)) f c.records }

/-- A change of the record with an id. -/
def State.updateRecord (s : State) (id : Nat) (f : Record → Record) : State := { s with cat := s.cat.update id f }

/-- R75: a candidate id is in use. -/
def State.recordIdUsed (s : State) (n : Nat) : Bool :=
  (s.cat.records.any fun r => decide (r.id = n) && !(decide (r.state = .released)))
    || s.alerts.alerts.any fun x => decide (x.event = some n)

/-- R75: the id the next record takes; at most 48 candidates are passed over. -/
def State.freshRecordId (s : State) : Nat :=
  firstFree s.recordIdUsed (Config.catalogueSlots + Config.queuePlaces + 1) s.cat.lastId

/-- R76 step 1: room can be made when a slot is free or a RELEASED record exists. -/
def Catalogue.room (c : Catalogue) : Bool :=
  decide (c.records.length < Config.catalogueSlots) || c.records.any fun r => decide (r.state = .released)

/-- The list without its first RELEASED record. -/
def dropFirstReleased : List Record → List Record
  | [] => []
  | r :: l => if r.state = .released then l else r :: dropFirstReleased l

/-- R76 steps 3 and 4: the RELEASED record that bears the assigned id is evicted; then, if no slot is free, the RELEASED record
earliest in creation order. -/
def evictFor (id : Nat) (l : List Record) : List Record :=
  let l := l.filter fun r => !(decide (r.id = id) && decide (r.state = .released))
  if l.length < Config.catalogueSlots then l else dropFirstReleased l

/-- R76: a record joins the catalogue, last in creation order; `none` when room cannot be made (R77). -/
def State.addRecord (s : State) (mk : Nat → Record) : Option (State × Nat) :=
  if s.cat.room then
    let id := s.freshRecordId
    some ({ s with cat := ⟨evictFor id s.cat.records ++ [mk id], id⟩ }, id)
  else none

/-! ### Creating records (R78, R79) -/

/-- R78: the values of an EVENT record at its creation. -/
def eventRecord (c : EventCtx) (sev : Severity) (id : Nat) : Record where
  id := id
  kind := .event
  state := .opened
  onsetIndex := c.onset.index
  onsetStamp := some c.onset.stamp
  openIndex := some c.openIndex
  closeIndex := none
  duration := none
  voting := some c.voting
  triggered := some c.triggered
  peak := some c.peak
  ratio := some c.ratio
  severity := some sev
  flags := { RecFlags.none with clipped := c.clipped }
  stepTotal := none
  capture := .none
  blocks := []
  link := .none
  pins := 0

/-- R78, R77: an event's opening asks for a record. EVENT_OPENED is raised whether it is created or refused; a refusal posts
CATALOGUE_FULL. The answer is the id, or its absence. -/
def State.createEvent (s : State) (c : EventCtx) : State × Option Nat :=
  match s.addRecord (eventRecord c (s.quakeSeverity c.peak)) with
  | some (t, id) => (t.raiseBoth .eventOpened, some id)
  | none => ((s.post .catalogueFull).raiseBoth .eventOpened, none)

/-- R73, R79: the values of a MANUAL record at its creation. -/
def manualRecord (start count : Nat) (stamp : Option Stamp) (id : Nat) : Record where
  id := id
  kind := .manual
  state := .closed
  onsetIndex := start
  onsetStamp := stamp
  openIndex := none
  closeIndex := some (idxAdd start (count - 1))
  duration := some count
  voting := none
  triggered := none
  peak := none
  ratio := none
  severity := none
  flags := RecFlags.none
  stepTotal := none
  capture := .none
  blocks := []
  link := .none
  pins := 0

/-! ### Bookkeeping during an event (R80 to R83) -/

/-- R80: the figures the Trigger Unit reports for a set, with the severity recomputed. -/
def State.reportFigures (s : State) (id : Nat) (c : EventCtx) : State :=
  s.updateRecord id fun r =>
    { r with
      peak := some c.peak
      ratio := some c.ratio
      triggered := some c.triggered
      severity := some (s.quakeSeverity c.peak)
      flags := r.flags.add { RecFlags.none with clipped := c.clipped } }

/-- R81: BLANKED_DURING is set on the OPEN record. -/
def State.reportBlanked (s : State) (id : Nat) : State :=
  s.updateRecord id fun r => { r with flags := r.flags.add { RecFlags.none with blankedDuring := true } }

/-- A step total or amount held to ±2,147,483,647 (R16, R82). -/
def clampStep (x : Int) : Int := clampInt (-Config.stepBound) Config.stepBound x

/-- R82: a step is applied to the record that is OPEN, and discarded when none is. -/
def State.reportStep (s : State) (amount : Int) : State :=
  { s with
    cat :=
      { s.cat with
        records :=
          mapWhere (fun r => decide (r.state = .opened))
            (fun r =>
              { r with
                flags := { r.flags with stepped := true }
                stepTotal :=
                  some
                    (match r.stepTotal with
                      | some t => clampStep (t + amount)
                      | none => amount) })
            s.cat.records } }

/-- R83: the close is written into the record, which becomes CLOSED. -/
def State.reportClose (s : State) (id : Nat) (c : EventCtx) (closeIndex duration : Nat) (forced interrupted : Bool) : State :=
  s.updateRecord id fun r =>
    { r with
      state := .closed
      closeIndex := some closeIndex
      duration := some duration
      voting := some c.voting
      triggered := some c.triggered
      peak := some c.peak
      ratio := some c.ratio
      severity := some (s.quakeSeverity c.peak)
      flags :=
        r.flags.add
          { RecFlags.none with
            clipped := c.clipped
            blankedDuring := c.blanked
            forced := forced
            interrupted := interrupted } }

/-! ### Capture bookkeeping (R84 to R86) -/

/-- R84: a job is created, its start clamped or not. -/
def State.reportJob (s : State) (id : Nat) (clamped : Bool) : State :=
  s.updateRecord id fun r =>
    { r with capture := .running, flags := r.flags.add { RecFlags.none with prerollShort := clamped } }

/-- R84: a job is refused. -/
def State.reportNoCapture (s : State) (id : Nat) : State :=
  s.updateRecord id fun r => { r with flags := r.flags.add { RecFlags.none with noCapture := true } }

/-- R84: the stamp of the first set copied, for a record whose onset stamp is absent. -/
def State.reportStamp (s : State) (id : Nat) (t : Stamp) : State :=
  s.updateRecord id fun r =>
    { r with
      onsetStamp :=
        match r.onsetStamp with
        | some u => some u
        | none => some t }

/-- R85: a posted block joins the end of the block list. -/
def State.reportBlock (s : State) (id : Nat) (b : Block) : State :=
  s.updateRecord id fun r => { r with blocks := r.blocks ++ [b] }

/-- The outcomes with which a job ends (R86, R104). -/
inductive JobEnd
  | complete
  | long
  | truncated
  | cancelled
  deriving DecidableEq, Repr

/-- R86: the capture status each outcome gives. -/
def JobEnd.capture : JobEnd → Capture
  | .complete | .long => .complete
  | .truncated => .truncated
  | .cancelled => .cancelled

/-- R86: the flag each outcome sets. -/
def JobEnd.flags : JobEnd → RecFlags
  | .long => { RecFlags.none with long := true }
  | .truncated => { RecFlags.none with truncated := true }
  | .complete | .cancelled => RecFlags.none

/-- R86: a job's end sets the capture status and flags of its record, and EVENT_READY is raised. -/
def State.reportEnd (s : State) (id : Nat) (o : JobEnd) : State :=
  (s.updateRecord id fun r => { r with capture := o.capture, flags := r.flags.add o.flags }).raiseBoth .eventReady

/-! ### Pins (R88) -/

/-- R88: a pin is asked for: granted when the record is OPEN or CLOSED. -/
def State.pin (s : State) (id : Nat) : Option State :=
  match s.cat.find id with
  | some r => if r.state = .released then none else some (s.updateRecord id fun r => { r with pins := r.pins + 1 })
  | none => none

/-- R88: the read ends and its pin is dropped. -/
def State.unpin (s : State) (id : Nat) : State := s.updateRecord id fun r => { r with pins := r.pins - 1 }

/-! ### The commands (R89, R90) -/

/-- An entry of EVT.LIST (11.2.2). -/
def Record.entry (r : Record) : Text :=
  partsText
    [natText r.id, r.kind.name.toList, r.state.name.toList, optText (fun v : Severity => v.name.toList) r.severity,
      r.capture.name.toList, natText r.blocks.length, linkText r.link]

/-- R89: the snapshot of the catalogue. -/
def Catalogue.fields (c : Catalogue) : List Text :=
  [field "used" (natText c.records.length),
    field "released" (natText (c.records.filter fun r => decide (r.state = .released)).length),
    field "free" (natText (Config.catalogueSlots - c.records.length)), field "last_id" (natText c.lastId)]
    ++ c.records.map fun r => field "entry" r.entry

/-- R89: EVT.LIST. -/
def cmdEvtList (p : Port) (args : Text) (s : State) : State :=
  s.noArg p "EVT.LIST" args fun s => s.respond p (reply .ok "EVT.LIST" s.cat.fields)

/-- A figure kept per component, absent together (11.2.2). -/
def axisFields (key : Axis → String) (v : Option (PerAxis Nat)) : List Text :=
  [Axis.z, .n, .e].map fun a => field (key a) (optText (fun t : PerAxis Nat => natText (t.get a)) v)

def peakKey : Axis → String
  | .z => "peak.z"
  | .n => "peak.n"
  | .e => "peak.e"

def ratioKey : Axis → String
  | .z => "ratio.z"
  | .n => "ratio.n"
  | .e => "ratio.e"

/-- A field of the span open_index through severity that a MANUAL record holds: 11.2.2 writes it as absent. -/
def Record.shown (r : Record) (v : Option Nat) : Option Nat :=
  match r.kind with
  | .event => v
  | .manual => none

/-- R90, 11.2.2: every field of a record. -/
def Record.fields (r : Record) : List Text :=
  [field "id" (natText r.id), field "kind" r.kind.name.toList, field "state" r.state.name.toList,
    field "onset_index" (natText r.onsetIndex), field "onset" (optText stampText r.onsetStamp),
    field "open_index" (optText natText r.openIndex), field "close_index" (optText natText (r.shown r.closeIndex)),
    field "duration" (optText natText (r.shown r.duration)), field "voting" (optText axesText r.voting),
    field "triggered" (optText axesText r.triggered)]
    ++ axisFields peakKey r.peak ++ axisFields ratioKey r.ratio
    ++ [field "severity" (optText (fun v : Severity => v.name.toList) r.severity), field "flags" (recFlagsText r.flags),
      field "step_total" (optText intText r.stepTotal), field "capture" r.capture.name.toList,
      field "blocks" (listText (r.blocks.map fun b => partsText [natText b.number, natText b.sets.length])),
      field "link" (linkText r.link), field "pins" (natText r.pins)]

/-- R90: EVT.READ. -/
def cmdEvtRead (p : Port) (args : Text) (s : State) : State :=
  s.withNumbers p "EVT.READ" 1 args fun ns s =>
    let n := ns.headD 0
    if idInRange n then
      match s.cat.find n.toNat with
      | some r => s.respond p (reply .ok "EVT.READ" r.fields)
      | none => s.respond p (reply .missing "EVT.READ" [])
    else s.respond p (reply .range "EVT.READ" [])

def execEvtList (p : Port) (args : Text) (s : State) : Host.Outcome State Fault Refusal :=
  .next (s.takeLine p (cmdEvtList p args))

def execEvtRead (p : Port) (args : Text) (s : State) : Host.Outcome State Fault Refusal :=
  .next (s.takeLine p (cmdEvtRead p args))

end Sys2Proof.Machine
end

