-- ==== Sys2Proof/Machine/Capture.lean ====
section
/-! DEFINITION. The Waveform Store and Capture Engine (05, R94 to R114): the free-block list, the job table, bursts, ring writes
and laps, the arbiter's read bursts, and the commands EVT.RELEASE, WAV.CAPTURE, WAV.READ and WAV.STATUS. -/

namespace Sys2Proof.Machine

open Sys2Proof

/-! ### Jobs (R96) -/

/-- R96: a job is done when its end index is present and its next source index lies above it. -/
def Job.done (j : Job) : Bool :=
  match j.stop with
  | some e => idxLt e j.next
  | none => false

/-- R96: a set is available to the job. -/
def Job.available (j : Job) (f : Front) : Bool :=
  match f.newest with
  | none => false
  | some w =>
    idxLe j.next w
      && match j.stop with
        | some e => idxLe j.next e
        | none => true

/-- The fill of a job's current block; 0 when it holds none. -/
def Job.fill (j : Job) : Nat :=
  match j.current with
  | some b => b.sets.length
  | none => 0

/-- The job in a table entry. -/
def Store.find (t : Store) (n : Nat) : Option Job := t.jobs.find? fun j => decide (j.number = n)

/-- A change of the job in a table entry. -/
def State.updateJob (s : State) (n : Nat) (f : Job → Job) : State :=
  { s with store := { s.store with jobs := mapWhere (fun j => decide (j.number = n)) f s.store.jobs } }

/-- R95, R102: the service order, as table entries: EVENT jobs before MANUAL jobs, the earliest created first within each. -/
def Store.service (t : Store) : List Nat :=
  ((t.jobs.filter fun j => decide (j.kind = .event)) ++ t.jobs.filter fun j => decide (j.kind = .manual)).map
    fun j => j.number

/-- R96, R100: a job takes its state. With a set available and no current block it takes the head of the free-block list, or
enters WAITING_BLOCK, each entry posting BLOCKS_EXHAUSTED. -/
def State.settleJob (s : State) (n : Nat) : State :=
  match s.store.find n with
  | none => s
  | some j =>
    if j.available s.front then
      match j.current with
      | some _ => s.updateJob n fun j => { j with state := .copying }
      | none =>
        match s.store.free with
        | [] =>
          if j.state = .waitingBlock then s
          else (s.updateJob n fun j => { j with state := .waitingBlock }).post .blocksExhausted
        | b :: rest =>
          { s with store := { s.store with free := rest } }.updateJob n
            fun j => { j with current := some ⟨b, []⟩, state := .copying }
    else s.updateJob n fun j => { j with state := .waitingData }

/-- R95: blocks of the list are handed to the jobs in WAITING_BLOCK, of the entries given, one to each. -/
def State.handOutTo (s : State) : List Nat → State
  | [] => s
  | n :: l =>
    State.handOutTo
      (match s.store.find n with
        | some j => if j.state = .waitingBlock ∧ s.store.free ≠ [] then s.settleJob n else s
        | none => s) l

/-- R95: blocks join the free-block list at its tail and are handed out at once, in service order. -/
def State.joinBlocks (s : State) (blocks : List Nat) : State :=
  let s := { s with store := { s.store with free := s.store.free ++ blocks } }
  s.handOutTo s.store.service

/-- R104: a job ends: its current block is posted or returned, its entry is emptied and its outcome reported. -/
def State.endJob (s : State) (n : Nat) (o : JobEnd) : State :=
  match s.store.find n with
  | none => s
  | some j =>
    let s := { s with store := { s.store with jobs := s.store.jobs.filter fun k => decide (k.number ≠ n) } }
    let s :=
      match j.current with
      | none => s
      | some b => if b.sets.isEmpty then s.joinBlocks [b.number] else s.reportBlock j.record b
    s.reportEnd j.record o

/-- Jobs of the table entries given settle, those in WAITING_DATA only (R96: a ring write). -/
def State.wakeJobs (s : State) : List Nat → State
  | [] => s
  | n :: l =>
    State.wakeJobs
      (match s.store.find n with
        | some j => if j.state = .waitingData then s.settleJob n else s
        | none => s) l

/-- R105: the jobs of the table entries given that the write of set `w` laps end TRUNCATED. -/
def State.lapJobs (s : State) (w : Nat) : List Nat → State
  | [] => s
  | n :: l =>
    State.lapJobs
      (match s.store.find n with
        | some j => if j.next = idxSub w Config.ringLength ∧ j.done = false then s.endJob n .truncated else s
        | none => s) w l

/-- R33, R35 step 1, R96, R105: a completed set is written into its slot. A job whose next source set the write overwrites is
lapped; then the set stands in the ring and the jobs that wait for it go on. DESIGN CHOICE (log entry 36): the lapped jobs end
before the waiting ones go on, so that a block returned by a lap may go to one of them; R105 gives no order. -/
def State.writeRing (s : State) (r : SetRec) : State :=
  let s :=
    if Config.ringLength ≤ s.front.ring.length then s.lapJobs r.index (s.store.jobs.map fun j => j.number) else s
  let s := { s with front := { s.front with ring := (r :: s.front.ring).take Config.ringLength } }
  s.wakeJobs s.store.service

/-! ### EVENT jobs (R97 to R99) -/

/-- The lowest-numbered empty entry of the job table. -/
def Store.freeEntry (t : Store) : Option Nat :=
  (List.range Config.jobEntries).find? fun n => t.jobs.all fun j => decide (j.number ≠ n)

/-- A job joins the table, last in creation order; its record's capture status becomes RUNNING and it takes its state. -/
def State.addJob (s : State) (j : Job) (clamped : Bool) : State :=
  let s := { s with store := { s.store with jobs := s.store.jobs ++ [j] } }
  (s.reportJob j.record clamped).settleJob j.number

/-- R97: the start index of an EVENT job, and whether it was clamped to the oldest available set. -/
def State.eventStart (s : State) (onset : Nat) : Nat × Bool :=
  let want := idxSub onset (s.paramN .trigPreroll)
  if idxLt want s.front.oldestIdx then (s.front.oldestIdx, true) else (want, false)

/-- R98: the MANUAL job latest in creation order, which an EVENT job cancels when no entry is empty. -/
def Store.lastManual (t : Store) : Option Job := t.jobs.reverse.find? fun j => decide (j.kind = .manual)

/-- An EVENT job in a table entry (R97). -/
def eventJob (n record start : Nat) : Job where
  number := n
  kind := .event
  record := record
  start := start
  next := start
  stop := none
  current := none
  posted := 0
  stampPending := false
  state := .waitingData

/-- R97, R98: an event's opening asks for a capture job. -/
def State.createEventJob (s : State) (record onset : Nat) : State :=
  let start := s.eventStart onset
  match s.store.freeEntry with
  | some n => s.addJob (eventJob n record start.1) start.2
  | none =>
    match s.store.lastManual with
    | some m => (s.endJob m.number .cancelled).addJob (eventJob m.number record start.1) start.2
    | none => s.reportNoCapture record

/-- R99: the end index is handed to the record's job, which ends at once when it is done. -/
def State.handEnd (s : State) (record stop : Nat) : State :=
  match s.store.jobs.find? fun j => decide (j.record = record) with
  | none => s
  | some j =>
    let s := s.updateJob j.number fun j => { j with stop := some stop }
    if ({ j with stop := some stop } : Job).done then s.endJob j.number .complete else s.settleJob j.number

/-! ### MANUAL jobs (R101) -/

/-- A MANUAL job in a table entry (R101). -/
def manualJob (n record start count : Nat) (pending : Bool) : Job where
  number := n
  kind := .manual
  record := record
  start := start
  next := start
  stop := some (idxAdd start (count - 1))
  current := none
  posted := 0
  stampPending := pending
  state := .waitingData

/-- R101: the start index lies below the oldest available index, or the end index above the newest written index + 8,192. -/
def Front.windowBad (f : Front) (start count : Nat) : Bool :=
  idxLt start f.oldestIdx || idxLt (idxAdd f.newestIdx 8192) (idxAdd start (count - 1))

/-- R101: WAV.CAPTURE. -/
def cmdWavCapture (p : Port) (args : Text) (s : State) : State :=
  s.withNumbers p "WAV.CAPTURE" 2 args fun ns s =>
    let start := ns.headD 0
    let count := (ns.drop 1).headD 0
    if start < 0 ∨ (count40 : Int) ≤ start ∨ count < 1 ∨ 49152 < count then
      s.respond p (reply .range "WAV.CAPTURE" [])
    else if s.front.windowBad start.toNat count.toNat then s.respond p (reply .range "WAV.CAPTURE" [])
    else
      match s.store.freeEntry with
      | none => s.respond p (reply .full "WAV.CAPTURE" [])
      | some n =>
        let stamp := (s.front.find start.toNat).map fun r => r.stamp
        match s.addRecord (manualRecord start.toNat count.toNat stamp) with
        | none => s.respond p (reply .full "WAV.CAPTURE" [])
        | some (t, id) =>
          (t.addJob (manualJob n id start.toNat count.toNat stamp.isNone) false).respond p
            (reply .ok "WAV.CAPTURE" [field "id" (natText id)])

/-! ### Copying (R102, R103) -/

/-- R102: the COPYING job the Engine serves: EVENT jobs first, the earliest created first within each kind. -/
def Store.served (t : Store) : Option Job :=
  match t.jobs.find? fun j => decide (j.kind = .event ∧ j.state = .copying) with
  | some j => some j
  | none => t.jobs.find? fun j => decide (j.state = .copying)

/-- R102: how many sets the burst copies. -/
def Job.burst (j : Job) (newest : Nat) : Nat :=
  let k := min (min Config.burstSets (Config.blockSets - j.fill)) (idxSub newest j.next + 1)
  match j.stop with
  | some e => min k (idxSub e j.next + 1)
  | none => k

/-- R33: the `k` ring records from index `next` upward, `newest` being the newest written. -/
def Front.sets (f : Front) (newest next k : Nat) : List SetRec :=
  ((f.ring.take (idxSub newest next + 1)).reverse).take k

/-- R102: the job after its burst of the sets given. -/
def Job.copied (j : Job) (sets : List SetRec) : Job :=
  { j with
    next := idxAdd j.next sets.length
    current := j.current.map fun b => { b with sets := b.sets ++ sets }
    stampPending := false }

/-- R103 step 1: a full current block is posted into the record's block list. -/
def State.postFull (s : State) (j : Job) : State :=
  match j.current with
  | some b =>
    if Config.blockSets ≤ b.sets.length then
      (s.updateJob j.number fun k => { k with current := none, posted := k.posted + 1 }).reportBlock j.record b
    else s
  | none => s

/-- R103 steps 2 to 4: the served job ends or takes its state. -/
def State.finishBurst (s : State) (n : Nat) : State :=
  match s.store.find n with
  | none => s
  | some j =>
    if j.done then s.endJob n .complete
    else if Config.recordBlocks ≤ j.posted then s.endJob n .long
    else s.settleJob n

/-- R102, R103: one burst for the COPYING job the Engine serves. A ring write that waits is granted first (R106), and without a
COPYING job the Engine makes no request; the grant then does not come about. -/
def State.captureBurst (s : State) : State :=
  match s.front.waiting, s.store.served, s.front.newest with
  | none, some j, some w =>
    let sets := s.front.sets w j.next (j.burst w)
    let s :=
      if j.stampPending then
        match sets with
        | r :: _ => s.reportStamp j.record r.stamp
        | [] => s
      else s
    let j := j.copied sets
    let s := s.updateJob j.number fun _ => j
    (s.postFull j).finishBurst j.number
  | _, _, _ => s

/-! ### Release (R91) -/

/-- R91: EVT.RELEASE. -/
def cmdEvtRelease (p : Port) (args : Text) (s : State) : State :=
  s.withNumbers p "EVT.RELEASE" 1 args fun ns s =>
    let n := ns.headD 0
    let ok := reply .ok "EVT.RELEASE" [field "id" (natText n.toNat)]
    if idInRange n then
      match s.cat.find n.toNat with
      | none => s.respond p (reply .missing "EVT.RELEASE" [])
      | some r =>
        if r.state = .released then s.respond p ok
        else if r.state = .opened ∨ r.capture = .running then s.respond p (reply .state "EVT.RELEASE" [])
        else if 0 < r.pins then s.respond p (reply .busy "EVT.RELEASE" [])
        else
          let s := s.updateRecord n.toNat fun r => { r with state := .released, blocks := [] }
          (s.joinBlocks (r.blocks.map fun b => b.number)).respond p ok
    else s.respond p (reply .range "EVT.RELEASE" [])

/-! ### Reading waveform (R108, R109) -/

/-- R108: a port's read begins: the pin is held, and the response line carries what will follow (R214). -/
def State.startRead (s : State) (p : Port) (id position offset count : Nat) (b : Block) : State :=
  let left := min count (b.sets.length - offset)
  let status := if b.sets.length < offset + count then Status.clamped else .ok
  let s := { s with store := { s.store with reads := s.store.reads.set p (some ⟨id, position, offset, left⟩) } }
  s.respond p
    (reply status "WAV.READ"
      [field "id" (natText id), field "position" (natText position), field "block" (natText b.number),
        field "offset" (natText offset), field "count" (natText left)])

/-- R108: WAV.READ. A refusal after the pin was taken releases it, so the state is as before the pin. -/
def cmdWavRead (p : Port) (args : Text) (s : State) : State :=
  s.withNumbers p "WAV.READ" 4 args fun ns s =>
    match ns with
    | [id, position, offset, count] =>
      if idInRange id = false ∨ position < 0 ∨ 23 < position ∨ offset < 0 ∨ 2047 < offset ∨ count < 1 ∨ 256 < count then
        s.respond p (reply .range "WAV.READ" [])
      else
        match s.cat.find id.toNat, s.pin id.toNat with
        | some r, some t =>
          match r.blocks[position.toNat]? with
          | none => s.respond p (reply .range "WAV.READ" [])
          | some b =>
            if b.sets.length ≤ offset.toNat then s.respond p (reply .range "WAV.READ" [])
            else t.startRead p id.toNat position.toNat offset.toNat count.toNat b
        | _, _ => s.respond p (reply .missing "WAV.READ" [])
    | _ => s

/-- The sets of a read's next burst: up to 64, from its offset in its block (R109). -/
def State.readSets (s : State) (r : Read) : List SetRec :=
  match s.cat.find r.record with
  | none => []
  | some c =>
    match c.blocks[r.position]? with
    | none => []
    | some b => (b.sets.drop r.offset).take (min Config.burstSets r.left)

/-- R109: a read burst of a port: the sets pass to the port's output. The read ends only when the last of them has been sent
(`State.endRead`; log entry 21). -/
def State.readBurst (s : State) (p : Port) (r : Read) : State :=
  let k := min Config.burstSets r.left
  let bytes := (s.readSets r).flatMap SetRec.bytes
  { s with
    store :=
      { s.store with
        reads := s.store.reads.set p (some { r with offset := r.offset + k, left := r.left - k })
        lastServed := p }
    port := s.port.set p { s.port.get p with payload := (s.port.get p).payload ++ bytes } }

/-- R106: the read of a port that has sets still to fetch; the port requests the store for it. -/
def Store.request (t : Store) (p : Port) : Option Read := (t.reads.get p).filter fun r => decide (0 < r.left)

/-- R109, R191: the read of a port, if it has one, ends and its pin is released. -/
def State.endRead (s : State) (p : Port) : State :=
  match s.store.reads.get p with
  | some r => ({ s with store := { s.store with reads := s.store.reads.set p none } } : State).unpin r.record
  | none => s

/-- R106, R107: the port a read burst is granted to: of two that wait, the one not served last. `reqA` and `reqB` say which
ports request one. -/
def Store.granted (t : Store) (reqA reqB : Bool) : Option (Port × Read) :=
  match (if reqA then t.request .a else none), (if reqB then t.request .b else none) with
  | some x, some y => if t.lastServed = .a then some (.b, y) else some (.a, x)
  | some x, none => some (.a, x)
  | none, some y => some (.b, y)
  | none, none => none

/-- R106, R107, R109: the arbiter grants a port's read, when no ring write and no COPYING job waits. -/
def State.grantRead (s : State) (reqA reqB : Bool) : State :=
  if s.front.waiting.isNone && s.store.served.isNone then
    match s.store.granted reqA reqB with
    | some (p, r) => s.readBurst p r
    | none => s
  else s

/-! ### The snapshot (R110) -/

/-- A job field of WAV.STATUS (11.2.4); `order` is the job's place in creation order. -/
def Job.text (j : Job) (order : Nat) : Text :=
  partsText
    [j.kind.name.toList, natText j.record, natText order, j.state.name.toList, natText j.start, natText j.next,
      optText natText j.stop, optText (fun b : Block => natText b.number) j.current,
      optText (fun b : Block => natText b.sets.length) j.current, natText j.posted]

/-- The text of a table entry (R110). -/
def Store.entryText (t : Store) (n : Nat) : Text :=
  match (t.jobs.zipIdx 1).find? fun x => decide (x.1.number = n) with
  | some (j, k) => j.text k
  | none => "EMPTY".toList

/-- R110: the snapshot of the store. -/
def Store.fields (t : Store) : List Text :=
  [field "free" (natText t.free.length), field "head" (optText natText t.free.head?),
    field "last_served" t.lastServed.name.toList, field "job.0" (t.entryText 0), field "job.1" (t.entryText 1),
    field "job.2" (t.entryText 2), field "job.3" (t.entryText 3)]

/-- R110: WAV.STATUS. -/
def cmdWavStatus (p : Port) (args : Text) (s : State) : State :=
  s.noArg p "WAV.STATUS" args fun s => s.respond p (reply .ok "WAV.STATUS" s.store.fields)

/-! ### Restart (R112, R113) -/

/-- R102, R112: the job whose burst is in progress at a restart: the COPYING job in the table entry given, otherwise the one that the
Engine serves next. A burst that was granted before another job became COPYING is not that job's. -/
def Store.inBurst (t : Store) (entry : Nat) : Option Job :=
  match t.jobs.find? fun j => decide (j.number = entry ∧ j.state = .copying) with
  | some j => some j
  | none => t.served

/-- R112: a burst in progress, of the job in the table entry given, stops after `written` of its sets, which stay in the current block
and count in its fill. A burst whose last set is written is no longer in progress. -/
def State.stopBurst (s : State) (entry written : Nat) : State :=
  match s.store.inBurst entry, s.front.newest with
  | some j, some w =>
    let sets := s.front.sets w j.next (min written (j.burst w - 1))
    let s :=
      if j.stampPending then
        match sets with
        | r :: _ => s.reportStamp j.record r.stamp
        | [] => s
      else s
    if sets.isEmpty then s else s.updateJob j.number fun _ => j.copied sets
  | _, _ => s

/-- R113: the jobs of the table entries given are aborted, each by R104. -/
def State.abortJobs (s : State) : List Nat → State
  | [] => s
  | n :: l =>
    State.abortJobs
      (match s.store.find n with
        | some j => s.endJob n (if j.kind = .event then .truncated else .cancelled)
        | none => s) l

/-- R93, R112: every WAV.READ in progress ends and every pin count becomes 0. -/
def State.dropReads (s : State) : State :=
  { s with
    store := { s.store with reads := ⟨none, none⟩ }
    cat := { s.cat with records := s.cat.records.map fun r => { r with pins := 0 } } }

/-! ### The meanings of this family -/

def execEvtRelease (p : Port) (args : Text) (s : State) : Host.Outcome State Fault Refusal :=
  .next (s.takeLine p (cmdEvtRelease p args))

def execWavCapture (p : Port) (args : Text) (s : State) : Host.Outcome State Fault Refusal :=
  .next (s.takeLine p (cmdWavCapture p args))

/-- R102, R103. -/
def execCaptureBurst (s : State) : Host.Outcome State Fault Refusal := .next s.captureBurst

def execWavRead (p : Port) (args : Text) (s : State) : Host.Outcome State Fault Refusal :=
  .next (s.takeLine p (cmdWavRead p args))

/-- R106, R107, R109. -/
def execReadBurst (reqA reqB : Bool) (s : State) : Host.Outcome State Fault Refusal := .next (s.grantRead reqA reqB)

def execWavStatus (p : Port) (args : Text) (s : State) : Host.Outcome State Fault Refusal :=
  .next (s.takeLine p (cmdWavStatus p args))

end Sys2Proof.Machine
end

