-- ==== Sys2Proof/Machine/Trigger.lean ====
section
/-! DEFINITION. Trigger Detection (03, R43 to R71): the detector chain, component and station states, priming, blanking,
suspension, the opening and the close of an event, and TRIG.READ. -/

namespace Sys2Proof.Machine

open Sys2Proof

/-! ### The chain (R44 to R47, R51) -/

/-- `floor(a / 2^k)`. -/
def floorShift (a : Int) (k : Nat) : Int := floorDiv a ((2 : Int) ^ k)

/-- R45: the characteristic value of a deviation. -/
def charValue (d : Int) : Nat := min d.natAbs 4294967295

/-- R45, R46: an average moves toward a value by `floor((v − old) / 2^k)`. -/
def average (old v k : Nat) : Nat := ((old : Int) + floorShift ((v : Int) - (old : Int)) k).toNat

/-- R47: the ratio, from STA, LTA and the floor on LTA in counts. -/
def ratioOf (sta lta floor : Nat) : Nat := min 4095 (16 * sta / max lta (256 * floor))

/-- R51: the first processed set of a priming initialises the record. `shift` is trig.dc_shift. -/
def Comp.initialise (c : Comp) (x256 : Int) (shift : Nat) : Comp × Int :=
  let dc := if shift = 0 then 0 else x256
  let v := charValue (x256 - dc)
  ({ c with dc := dc, sta := v, lta := v, firstPending := false, priming := 1 }, x256 - dc)

/-- R44 to R47: the chain for one component and one processed set with sample `x`; the second result is the deviation d. -/
def State.chain (s : State) (x : Int) (c : Comp) : Comp × Int :=
  let x256 := x * 256
  let shift := s.paramN .trigDcShift
  if c.firstPending then c.initialise x256 shift
  else
    let d := if shift = 0 then x256 else x256 - c.dc
    let dc := if shift = 0 then 0 else clampInt (-2147483648) 2147483647 (c.dc + floorShift (x256 - c.dc) shift)
    let v := charValue d
    let sta := average c.sta v (s.paramN .trigStaShift)
    let lta := if c.state = .triggered then c.lta else average c.lta v (s.paramN .trigLtaShift)
    let q := if c.state = .priming then none else some (ratioOf sta lta (s.paramN .trigLtaFloor))
    let priming := if c.state = .priming then c.priming + 1 else c.priming
    ({ c with dc := dc, sta := sta, lta := lta, q := q, priming := priming }, d)

/-! ### Component states (R49, R50, R52) -/

/-- R49: a QUIET component, after the chain. -/
def State.moveQuiet (s : State) (m : Mark) (c : Comp) : Comp :=
  if s.paramN .trigOn ≤ c.q.getD 0 then
    if 1 < s.paramN .trigConfirm then { c with state := .arming, run := 1, candidate := some m }
    else { c with state := .triggered, onset := some m, below := 0 }
  else c

/-- R49: an ARMING component, after the chain. -/
def State.moveArming (s : State) (c : Comp) : Comp :=
  if s.paramN .trigOn ≤ c.q.getD 0 then
    if s.paramN .trigConfirm ≤ c.run + 1 then
      { c with state := .triggered, onset := c.candidate, below := 0, run := 0, candidate := none }
    else { c with run := c.run + 1 }
  else { c with state := .quiet, run := 0, candidate := none }

/-- R50: a TRIGGERED component, after the chain. -/
def State.moveTriggered (s : State) (c : Comp) : Comp :=
  if c.q.getD 0 < s.paramN .trigOff then
    if s.paramN .trigHold ≤ c.below + 1 then { c with state := .quiet, below := 0, onset := none }
    else { c with below := c.below + 1 }
  else { c with below := 0 }

/-- R52: a PRIMING component enters QUIET at the set that brings its count to 2^(lta_shift+1). -/
def State.movePriming (s : State) (c : Comp) : Comp :=
  if 2 ^ (s.paramN .trigLtaShift + 1) ≤ c.priming then { c with state := .quiet } else c

/-- The component states move after the chain of a processed set (R43). -/
def State.moveComp (s : State) (m : Mark) (c : Comp) : Comp :=
  match c.state with
  | .priming => s.movePriming c
  | .quiet => s.moveQuiet m c
  | .arming => s.moveArming c
  | .triggered => s.moveTriggered c

/-- The component stage of R43 for one component: the chain, then the move. -/
def State.processComp (s : State) (m : Mark) (x : Int) (c : Comp) : Comp × Int :=
  let r := s.chain x c
  (s.moveComp m r.1, r.2)

/-- R51: a component begins priming. -/
def Comp.beginPriming (c : Comp) : Comp :=
  { c with
    state := .priming
    priming := 0
    firstPending := true
    run := 0
    below := 0
    candidate := none
    onset := none
    q := none }

/-- R51: all three components begin priming together. -/
def State.beginPriming (s : State) : State := { s with trig := { s.trig with comp := s.trig.comp.map Comp.beginPriming } }

/-! ### The vote (R56) and the event's figures (R48, R59, R61) -/

/-- The weights of the three components. -/
def State.weights (s : State) : PerAxis Nat := ⟨s.paramN .trigWeightZ, s.paramN .trigWeightN, s.paramN .trigWeightE⟩

/-- The components that are TRIGGERED. -/
def triggeredSet (c : PerAxis Comp) : PerAxis Bool := c.map fun k => decide (k.state = .triggered)

/-- R59: the components that are TRIGGERED with a weight above 0. -/
def State.votingSet (s : State) (c : PerAxis Comp) : PerAxis Bool :=
  let t := triggeredSet c
  let w := s.weights
  ⟨t.z && decide (0 < w.z), t.n && decide (0 < w.n), t.e && decide (0 < w.e)⟩

/-- R56: the vote V. -/
def State.vote (s : State) : Nat :=
  let t := triggeredSet s.trig.comp
  let w := s.weights
  (if t.z then w.z else 0) + (if t.n then w.n else 0) + if t.e then w.e else 0

/-- R48: the peak of a deviation, in counts. -/
def peakOf (d : Int) : Nat := d.natAbs / 256

/-- The figures of one processed set: peaks and ratios (R48, R59). -/
structure Figures where
  peak : PerAxis Nat
  ratio : PerAxis Nat
  deriving DecidableEq, Repr

/-- The figures of a set for which no chain ran (R59). -/
def Figures.zero : Figures := ⟨⟨0, 0, 0⟩, ⟨0, 0, 0⟩⟩

/-- The smaller-indexed of two onsets (R59). -/
def earlier : Option Mark → Option Mark → Option Mark
  | some x, some y => if idxLt y.index x.index then some y else some x
  | some x, none => some x
  | none, y => y

/-- R59: the onset of the voting component whose onset index is the smallest. -/
def State.eventOnset (s : State) (c : PerAxis Comp) : Option Mark :=
  let v := s.votingSet c
  earlier (earlier (if v.z then c.z.onset else none) (if v.n then c.n.onset else none)) (if v.e then c.e.onset else none)

/-- R59: the context of an event that opens at set `r`. -/
def State.contextAt (s : State) (r : SetRec) (f : Figures) : EventCtx where
  record := none
  onset := (s.eventOnset s.trig.comp).getD ⟨r.index, r.stamp⟩
  openIndex := r.index
  openUptime := s.tb.uptime
  voting := s.votingSet s.trig.comp
  triggered := triggeredSet s.trig.comp
  peak := f.peak
  ratio := f.ratio
  clipped := anyAxis r.clipped
  blanked := false

/-- The quake summary of an event context (R60, R63). -/
def EventCtx.summary (c : EventCtx) (duration : Option Nat) (forced interrupted final : Bool) : Summary where
  onset := c.onset.stamp
  peak := c.peak
  ratio := c.ratio
  duration := duration
  clipped := c.clipped
  blankedDuring := c.blanked
  forced := forced
  interrupted := interrupted
  final := final
  revision := 0

/-- R60: an event opens: the Catalogue, then the Capture Engine, then the Alert Queue take it. -/
def State.openEvent (s : State) (r : SetRec) (f : Figures) : State :=
  let c := s.contextAt r f
  let made := s.createEvent c
  let c := { c with record := made.2 }
  let s :=
    match made.2 with
    | some id => made.1.createEventJob id c.onset.index
    | none => made.1
  let s := s.openAlert made.2 (c.summary none false false false)
  { s with trig := { s.trig with station := .active, event := some c } }

/-- R63: the event closes with its final figures; `hand` says whether the end index is handed to the Capture Engine (R66). The
context and any countdown are discarded; the station's state is left to the caller. -/
def State.closeEvent (s : State) (forced interrupted hand : Bool) : State :=
  match s.trig.event with
  | none => s
  | some c =>
    let stop := s.front.newest.getD c.openIndex
    let duration := idxSub stop c.onset.index + 1
    let s :=
      match c.record with
      | some id =>
        let s := s.reportClose id c stop duration forced interrupted
        if hand then s.handEnd id stop else s
      | none => s
    let s := s.closeAlert (c.summary (some duration) forced interrupted true)
    { s with trig := { s.trig with event := none, countdown := none } }

/-- The station takes a state. -/
def State.setStation (s : State) (t : Station) : State := { s with trig := { s.trig with station := t } }

/-- R61: the context after a set, before the station's evaluation. -/
def State.followEvent (s : State) (r : SetRec) (processed : Bool) (f : Figures) : State :=
  match s.trig.event with
  | none => s
  | some c =>
    let c := { c with clipped := c.clipped || anyAxis r.clipped }
    let c :=
      if processed then
        { c with
          peak := maxAxis c.peak f.peak
          ratio := maxAxis c.ratio f.ratio
          triggered := orAxis c.triggered (triggeredSet s.trig.comp) }
      else c
    { s with trig := { s.trig with event := some c } }

/-- R62: the countdown reaches 0, or is loaded with 0: the event closes and the station becomes QUIET (R64). -/
def State.endPostRoll (s : State) : State := (s.closeEvent false false true).setStation .quiet

/-- R56, R62: the station's evaluation at a set. -/
def State.evaluate (s : State) (r : SetRec) (f : Figures) : State :=
  let up := decide (s.paramN .trigVote ≤ s.vote)
  match s.trig.station with
  | .suspended => s
  | .quiet => if up then s.openEvent r f else s
  | .active =>
    if up then s
    else if s.paramN .trigPostroll = 0 then s.endPostRoll
    else { s with trig := { s.trig with station := .post, countdown := some (s.paramN .trigPostroll) } }
  | .post =>
    if up then { s with trig := { s.trig with station := .active, countdown := none } }
    else
      match s.trig.countdown with
      | some n =>
        if n ≤ 1 then s.endPostRoll else { s with trig := { s.trig with countdown := some (n - 1) } }
      | none => s.endPostRoll

/-- R61: the new figures are reported after the evaluation, when they changed and the event has a record. `before` is the
context as the set found it. -/
def State.reportEvent (s : State) (before : Option EventCtx) : State :=
  match before, s.trig.event with
  | some b, some c =>
    if b = c then s
    else
      match c.record with
      | some id => s.reportFigures id c
      | none => s
  | _, _ => s

/-- R43: the component stage of a processed set. -/
def State.runComponents (s : State) (r : SetRec) : State × Figures :=
  let m : Mark := ⟨r.index, r.stamp⟩
  let z := s.processComp m r.sample.z s.trig.comp.z
  let n := s.processComp m r.sample.n s.trig.comp.n
  let e := s.processComp m r.sample.e s.trig.comp.e
  ({ s with trig := { s.trig with comp := ⟨z.1, n.1, e.1⟩ } },
    ⟨⟨peakOf z.2, peakOf n.2, peakOf e.2⟩, ⟨z.1.q.getD 0, n.1.q.getD 0, e.1.q.getD 0⟩⟩)

/-- R43: the Trigger Unit takes a set handed over. A set that is MISSING or BLANKED changes no component; while the station is
SUSPENDED nothing changes but the rate the set carried (R54). -/
def State.handOver (s : State) (r : SetRec) : State :=
  let s := { s with trig := { s.trig with lastRate := some s.front.rate } }
  if s.trig.station = .suspended then s
  else
    let before := s.trig.event
    let processed := !r.missing && !r.blanked
    let c := if processed then s.runComponents r else (s, Figures.zero)
    let s := c.1.followEvent r processed c.2
    (s.evaluate r c.2).reportEvent before

/-! ### Blanking (R54, R55) -/

/-- R54: an ARMING component returns to QUIET at an opening. -/
def Comp.disarm (c : Comp) : Comp :=
  if c.state = .arming then { c with state := .quiet, run := 0, candidate := none } else c

/-- R54: the length of a blanking window, in sets. -/
def State.blankLength (s : State) : Nat :=
  s.paramN .trigBlank * (s.trig.lastRate.getD (s.paramN .smpRate))

/-- R54: a heater domain has gone ON or has left ON: the blanking window opens or is extended. -/
def State.heaterSwitched (s : State) : State :=
  if s.paramN .trigBlank = 0 then s
  else
    let comp := if s.trig.blanking = 0 then s.trig.comp.map Comp.disarm else s.trig.comp
    let s := { s with trig := { s.trig with blanking := max s.trig.blanking s.blankLength, comp := comp } }
    match s.trig.event with
    | none => s
    | some c =>
      let s := { s with trig := { s.trig with event := some { c with blanked := true } } }
      match c.record with
      | some id => s.reportBlanked id
      | none => s

/-! ### Suspension (R57, R58) -/

/-- R57: a suspension cause is added. The first, with the station not SUSPENDED, closes any event INTERRUPTED, drops any
countdown and suspends the station. -/
def State.addCause (s : State) (f : Causes → Causes) : State :=
  let s := { s with trig := { s.trig with causes := f s.trig.causes } }
  if s.trig.station = .suspended then s
  else
    let s := s.closeEvent false true true
    { s with trig := { s.trig with station := .suspended, countdown := none } }

/-- R58: a suspension cause is removed. With the last one the station leaves SUSPENDED: the components begin priming and the
station becomes QUIET. -/
def State.removeCause (s : State) (f : Causes → Causes) : State :=
  let had := s.trig.causes.any
  let s := { s with trig := { s.trig with causes := f s.trig.causes } }
  if had && !s.trig.causes.any then s.beginPriming.setStation .quiet else s

/-- R57, R58: the Sample Front reports its state. -/
def State.frontReport (s : State) (f : FrontState) : State :=
  if f = .running then s.removeCause fun c => { c with frontNotRunning := false }
  else s.addCause fun c => { c with frontNotRunning := true }

/-- R57, R58: the Energy Unit reports its level. -/
def State.levelToTrigger (s : State) (l : Level) : State :=
  if l = .dormant then s.addCause fun c => { c with dormant := true }
  else s.removeCause fun c => { c with dormant := false }

/-- R57, R58: SET writes trig.enable. -/
def State.enableWritten (s : State) : State :=
  if s.paramN .trigEnable = 0 then s.addCause fun c => { c with enableOff := true }
  else s.removeCause fun c => { c with enableOff := false }

/-- R53, R66: a detector constant changes: any event in progress closes INTERRUPTED and the station becomes QUIET; the
components begin priming. -/
def State.constantsChanged (s : State) : State :=
  let s := if s.trig.event.isSome then (s.closeEvent false true true).setStation .quiet else s
  s.beginPriming

/-! ### The forced close (R65) -/

/-- R65: a TRIGGERED component at a forced close takes QUIET and sets LTA to STA. -/
def Comp.release (c : Comp) : Comp :=
  if c.state = .triggered then { c with state := .quiet, lta := c.sta, below := 0, onset := none } else c

/-- R65: trig.max_duration has elapsed and the event is forced closed. -/
def State.forceClose (s : State) : State :=
  match s.trig.event with
  | none => s
  | some c =>
    if c.openUptime + s.paramN .trigMaxDuration ≤ s.tb.uptime then
      let s := { s with trig := { s.trig with comp := s.trig.comp.map Comp.release } }
      (s.closeEvent true false true).setStation .quiet
    else s

/-! ### The snapshot (R69) -/

/-- The fields of a component, with its qualifier (11.2.4). -/
def Comp.fields (c : Comp) (axis : String) : List Text :=
  [field ("state." ++ axis) c.state.name.toList, field ("dc." ++ axis) (intText c.dc), field ("sta." ++ axis) (natText c.sta),
    field ("lta." ++ axis) (natText c.lta), field ("q." ++ axis) (optText natText c.q)]
    ++ (match c.state with
        | .priming => [field ("priming." ++ axis) (natText c.priming)]
        | .quiet => []
        | .arming =>
          [field ("run." ++ axis) (natText c.run),
            field ("candidate." ++ axis) (optText (fun m : Mark => natText m.index) c.candidate)]
        | .triggered =>
          [field ("below." ++ axis) (natText c.below),
            field ("onset." ++ axis) (optText (fun m : Mark => natText m.index) c.onset)])

/-- The suspension causes (R213: the order in which 3.1 lists them). -/
def Causes.text (c : Causes) : Text :=
  setText [(c.enableOff, "ENABLE_OFF"), (c.frontNotRunning, "FRONT_NOT_RUNNING"), (c.dormant, "DORMANT")]

/-- The fields of the event in progress (11.2.4). -/
def State.eventFields (s : State) (c : EventCtx) : List Text :=
  [field "record"
      (match c.record with
        | some id => natText id
        | none => "UNCATALOGUED".toList),
    field "onset_index" (natText c.onset.index), field "open_index" (natText c.openIndex),
    field "voting" (axesText c.voting), field "triggered" (axesText c.triggered)]
    ++ axisFields peakKey (some c.peak) ++ axisFields ratioKey (some c.ratio)
    ++ [field "forced_due" (natText (c.openUptime + s.paramN .trigMaxDuration))]

/-- R69: the snapshot of the Trigger Unit. -/
def State.trigFields (s : State) : List Text :=
  [field "station" s.trig.station.name.toList, field "causes" s.trig.causes.text]
    ++ s.trig.comp.z.fields "z" ++ s.trig.comp.n.fields "n" ++ s.trig.comp.e.fields "e"
    ++ [field "blank" (natText s.trig.blanking), field "countdown" (optText natText s.trig.countdown)]
    ++ (match s.trig.event with
        | some c => s.eventFields c
        | none => [])

/-- R69: TRIG.READ. -/
def cmdTrigRead (p : Port) (args : Text) (s : State) : State :=
  s.noArg p "TRIG.READ" args fun s => s.respond p (reply .ok "TRIG.READ" s.trigFields)

/-! ### Restart (R71) -/

/-- R71: the Trigger Unit at a warm restart; no end index is handed (R66). -/
def State.restartTrigger (s : State) : State :=
  let s := s.closeEvent false true false
  { s with
    trig :=
      { s.trig with
        comp := ⟨Comp.cold, Comp.cold, Comp.cold⟩
        station := .suspended
        causes := ⟨decide (s.paramN .trigEnable = 0), true, decide (s.energy.level = some .dormant)⟩
        blanking := 0
        event := none
        countdown := none } }

/-! ### The meanings of this family -/

/-- R65. -/
def execForcedClose (s : State) : Host.Outcome State Fault Refusal := .next s.forceClose

def execTrigRead (p : Port) (args : Text) (s : State) : Host.Outcome State Fault Refusal :=
  .next (s.takeLine p (cmdTrigRead p args))

end Sys2Proof.Machine
end

