-- ==== Sys2Proof/Machine/Front.lean ====
section
/-! DEFINITION. Sample Acquisition (02, R28 to R42): the front's states, the strobe grid, frames and the completion of sets, ring
writes through the store arbiter (R106), and SMP.READ. -/

namespace Sys2Proof.Machine

open Sys2Proof

/-! ### The grid (R31) -/

/-- The spacing of a rate, in ticks (R31). -/
def spacing (rate : Nat) : Nat := tickRate / rate

/-- The number k of the first grid point at or after a ticks reading. -/
def gridFrom (rate ticks : Nat) : Nat := (ticks + spacing rate - 1) / spacing rate

/-- The grid is taken afresh from the present reading (R29, R38). -/
def State.restartGrid (s : State) : State :=
  { s with front := { s.front with gridNext := gridFrom s.front.rate s.tb.raw } }

/-- R39: at the start of a second smp.rate is taken into the rate in force, and the grid begins at the first grid point of the
second at or after its ticks reading. -/
def State.takeRate (s : State) : State :=
  ({ s with front := { s.front with rate := s.paramN .smpRate } } : State).restartGrid

/-! ### The completion of a set (R34 to R37) -/

/-- R36, R55: the blanking window covers the set at its completion, and its remainder falls by one. -/
def State.askBlanking (s : State) : State × Bool :=
  if 0 < s.trig.blanking then ({ s with trig := { s.trig with blanking := s.trig.blanking - 1 } }, true) else (s, false)

/-- R36: the ring record of a set: its answering frame, or MISSING. -/
def ringRecord (o : Strobe) (f : Option Frame) (blanked : Bool) : SetRec where
  index := o.index
  stamp := o.stamp
  sample :=
    match f with
    | some g => g.sample
    | none => ⟨0, 0, 0⟩
  missing := f.isNone
  clipped :=
    match f with
    | some g => g.clipped
    | none => noAxis
  step := o.step
  blanked := blanked

/-- R28, R37: the missing-run count and the link state after a set, in RUNNING or LINK_LOST; a change is reported. -/
def State.linkUpdate (s : State) (missing : Bool) : State :=
  match s.front.state with
  | .stopped | .settling => s
  | .running =>
    if missing then
      let n := satNat 65535 (s.front.missingRun + 1)
      let s := { s with front := { s.front with missingRun := n } }
      if s.paramN .smpLostRun ≤ n then
        ({ s with front := { s.front with state := .linkLost } } : State).frontReport .linkLost
      else s
    else { s with front := { s.front with missingRun := 0 } }
  | .linkLost =>
    if missing then { s with front := { s.front with missingRun := satNat 65535 (s.front.missingRun + 1) } }
    else ({ s with front := { s.front with missingRun := 0, state := .running } } : State).frontReport .running

/-- R35: the ring write of a completed set is granted: the record is written, the missing run and the front state follow, and
the set is handed to the Trigger Unit. -/
def State.finishSet (s : State) (r : SetRec) : State := ((s.writeRing r).linkUpdate r.missing).handOver r

/-- R106: the ring write that waits is granted. -/
def State.flushRing (s : State) : State :=
  match s.front.waiting with
  | some r => ({ s with front := { s.front with waiting := none } } : State).finishSet r
  | none => s

/-- R35, R36, R106: a set completes. A write that still waits is made first; the set's own write is made at once, or waits
while a burst runs in the store (`busy`). -/
def State.completeSet (s : State) (o : Strobe) (f : Option Frame) (busy : Bool) : State :=
  let s := s.flushRing
  let a := s.askBlanking
  let r := ringRecord o f a.2
  let s := { a.1 with front := { a.1.front with outstanding := none } }
  if busy then { s with front := { s.front with waiting := some r } } else s.finishSet r

/-- An outstanding strobe is abandoned: its set completes MISSING (R30, R32, R42). -/
def State.abandonStrobe (s : State) (busy : Bool) : State :=
  match s.front.outstanding with
  | some o => s.completeSet o none busy
  | none => s

/-! ### State changes (R29, R30) -/

/-- R29: the front enters SETTLING and starts the settle timer; with smp.settle 0 it passes through to RUNNING at once, its
first strobe at the first grid point above the present reading. -/
def State.enterSettling (s : State) : State :=
  let wait := s.paramN .smpSettle
  if wait = 0 then
    let s := { s with front := { s.front with state := .settling } }.frontReport .settling
    ({ s with
      front :=
        { s.front with
          state := .running
          settleDue := none
          missingRun := 0
          gridNext := gridFrom s.front.rate (s.tb.raw + 1) } } : State).frontReport .running
  else
    ({ s with front := { s.front with state := .settling, settleDue := some (s.tb.uptime + wait) } } : State).frontReport
      .settling

/-- R29: the SENSOR domain is reported ON. -/
def State.sensorOn (s : State) : State :=
  if s.front.state = .stopped then
    ({ s with front := { s.front with linkSeq := 0 } } : State).enterSettling
  else s

/-- R30, R106: whether a burst runs in the store as SENSOR leaves ON. The commands that bring SENSOR out of ON do not say, and it
is a free value of the outstanding strobe (log entry 44). -/
def State.burstRuns (s : State) : Bool :=
  match s.front.outstanding with
  | some o => Config.burstRuns s.draws o.index
  | none => false

/-- R30, R106: the SENSOR domain is reported to have left ON. The set of an outstanding strobe completes, and its ring write is made
at once or waits behind a burst that runs. -/
def State.sensorOff (s : State) : State :=
  if s.front.state = .stopped then s
  else
    let s :=
      ({ s with front := { s.front with state := .stopped, settleDue := none } } : State).frontReport .stopped
    let s := s.abandonStrobe s.burstRuns
    { s with front := { s.front with missingRun := 0 } }

/-- R29: the settle timer falls due and the front enters RUNNING. The event comes about only in SETTLING with the due uptime
reached. -/
def State.settleTimer (s : State) : State :=
  if s.front.state = .settling ∧ s.dueNow s.front.settleDue = true then
    let s := { s with front := { s.front with state := .running, settleDue := none, missingRun := 0 } }
    (s.restartGrid).frontReport .running
  else s

/-! ### Strobes and frames (R32, R34) -/

/-- The ticks reading of the next grid point of this second: none in STOPPED and SETTLING, or when no grid point remains
(R31). -/
def State.nextGrid (s : State) : Option (Nat × Nat) :=
  let k := max s.front.gridNext (gridFrom s.front.rate s.tb.raw)
  match s.front.state with
  | .stopped | .settling => none
  | .running | .linkLost =>
    if k < s.front.rate ∧ k * spacing s.front.rate < s.tb.endAt then some (k, k * spacing s.front.rate) else none

/-- R32: the ticks reading reaches a grid point and a strobe is issued for a new set. -/
def State.issueStrobe (s : State) (busy : Bool) : State :=
  match s.nextGrid with
  | none => s
  | some (k, at_) =>
    let s := s.elapse (at_ - s.tb.raw)
    let s := s.abandonStrobe busy
    let seq := (s.front.linkSeq + 1) % 256
    let o : Strobe := ⟨s.front.sampleIndex, s.stamp, seq, s.front.stepPending⟩
    { s with
      front :=
        { s.front with
          sampleIndex := idxAdd s.front.sampleIndex 1
          linkSeq := seq
          stepPending := false
          outstanding := some o
          gridNext := k + 1 } }

/-- R34: a frame is judged against the outstanding strobe. -/
def State.takeFrame (s : State) (bytes : List Byte) (framing busy : Bool) : State :=
  match s.front.outstanding, frameOf bytes framing with
  | some o, some f =>
    if f.sequence = o.expected ∧ f.fault = false then s.completeSet o (some f) busy else s.completeSet o none busy
  | _, _ => s

/-! ### Time settings (R38) -/

/-- R38: the front restarts its grid after a setting of time, and a step sets the pending STEP mark. -/
def State.timeSetReport (s : State) (step : Bool) : State :=
  let s := s.takeRate
  { s with front := { s.front with stepPending := s.front.stepPending || step } }

/-! ### The snapshot (R40) -/

/-- R40: the snapshot of the front. -/
def State.smpFields (s : State) : List Text :=
  [field "state" s.front.state.name.toList, field "rate" (natText s.front.rate)]
    ++ (if s.paramN .smpRate = s.front.rate then [] else [field "smp_rate" (natText (s.paramN .smpRate))])
    ++ [field "index" (natText s.front.sampleIndex), field "newest" (optText natText s.front.newest),
      field "oldest" (optText natText (s.front.newest.map fun _ => s.front.oldestIdx)),
      field "missing_run" (natText s.front.missingRun), field "step_pending" (yesNo s.front.stepPending)]
    ++ (if s.front.state = .settling then [field "settle_due" (optText natText s.front.settleDue)] else [])

/-- R40: SMP.READ. -/
def cmdSmpRead (p : Port) (args : Text) (s : State) : State :=
  s.noArg p "SMP.READ" args fun s => s.respond p (reply .ok "SMP.READ" s.smpFields)

/-! ### Restart (R42) -/

/-- R42: an outstanding set, and one whose write still waits, complete before every other block's restart. -/
def State.restartStrobe (s : State) : State := s.flushRing.abandonStrobe false

/-- R42: the front enters SETTLING afresh when SENSOR is ON, keeping the link sequence; otherwise it is STOPPED. -/
def State.restartFront (s : State) : State :=
  let s := { s with front := { s.front with settleDue := none, missingRun := 0 } }
  if s.energy.domain.sensor.state = .on then s.enterSettling
  else ({ s with front := { s.front with state := .stopped } } : State).frontReport .stopped

/-! ### The meanings of this family -/

/-- R29. -/
def execSettleTimer (s : State) : Host.Outcome State Fault Refusal := .next s.settleTimer

/-- R32. -/
def execStrobe (busy : Bool) (s : State) : Host.Outcome State Fault Refusal := .next (s.issueStrobe busy)

/-- R34, R212. -/
def execDigitizerFrame (bytes : List Byte) (framing busy : Bool) (s : State) : Host.Outcome State Fault Refusal :=
  .next (s.takeFrame bytes framing busy)

def execSmpRead (p : Port) (args : Text) (s : State) : Host.Outcome State Fault Refusal :=
  .next (s.takeLine p (cmdSmpRead p args))

/-- R106, R35. -/
def execRingWrite (s : State) : Host.Outcome State Fault Refusal := .next s.flushRing

end Sys2Proof.Machine
end

