-- ==== Sys2Proof/Machine/Domains.lean ====
section
/-! DEFINITION. The seven switched domains (08, R165 to R169): requests and drops, the reports a change makes, and the
sequencer. What a fault of a domain brings stands in Energy. -/

namespace Sys2Proof.Machine

open Sys2Proof

/-- A domain's record. -/
def State.dom (s : State) (d : Domain) : DomRec := s.energy.domain.get d

/-- A change of a domain's record. -/
def State.setDom (s : State) (d : Domain) (r : DomRec) : State :=
  { s with energy := { s.energy with domain := s.energy.domain.set d r } }

/-- The heater domains. -/
def isHeater : Domain → Bool
  | .heatBatt | .heatInst => true
  | .aux | .sensor | .storage | .gnss | .modem => false

/-- R165: a heater domain is held OFF while the level is DORMANT. -/
def State.heldOff (s : State) (d : Domain) : Bool := isHeater d && decide (s.energy.level = some .dormant)

/-- R169: the report a domain makes on leaving ON. -/
def State.leftOn (s : State) (d : Domain) : State :=
  match d with
  | .sensor => s.sensorOff
  | .heatBatt | .heatInst => s.heaterSwitched
  | .aux | .storage | .gnss | .modem => s

/-- R166: a domain in WAITING, RISING or ON goes OFF at once; one that was ON reports it. -/
def State.turnOff (s : State) (d : Domain) : State :=
  match (s.dom d).state with
  | .off | .fault => s
  | .waiting | .rising => s.setDom d { s.dom d with state := .off, riseDue := none }
  | .on => (s.setDom d { s.dom d with state := .off, riseDue := none }).leftOn d

/-- R166: a requested domain that is OFF and not held OFF enters WAITING. -/
def State.wait (s : State) (d : Domain) : State :=
  if (s.dom d).requested ∧ (s.dom d).state = .off ∧ s.heldOff d = false then
    s.setDom d { s.dom d with state := .waiting }
  else s

/-- R165, R166: one domain's requested field takes a value: a request or a drop when it changes. -/
def State.setRequest (s : State) (d : Domain) (b : Bool) : State :=
  if (s.dom d).requested = b then s
  else
    let s := s.setDom d { s.dom d with requested := b }
    if b then s.wait d else s.turnOff d

/-- R165: AUX is requested while GNSS or MODEM is. -/
def State.followAux (s : State) : State :=
  s.setRequest .aux (s.energy.domain.gnss.requested || s.energy.domain.modem.requested)

/-- R165: a domain is requested or dropped by its requester, and AUX follows GNSS and MODEM. -/
def State.request (s : State) (d : Domain) (b : Bool) : State := (s.setRequest d b).followAux

/-- R166, R169: a RISING domain enters ON and reports to its dependants. -/
def State.enterOn (s : State) (d : Domain) : State :=
  let s := s.setDom d { s.dom d with state := .on, riseDue := none }
  match d with
  | .gnss => if s.tb.session = .powering then { s with tb := { s.tb with session := .seeking } } else s
  | .sensor => s.sensorOn
  | .heatBatt | .heatInst => s.heaterSwitched
  | .aux | .storage | .modem => s

/-- R167: the waiting list, in the fixed order. -/
def Energy.waitingList (e : Energy) : List Domain :=
  Domain.all.filter fun d => decide ((e.domain.get d).state = .waiting)

/-- R167: the domain holding the rising slot. -/
def Energy.rising (e : Energy) : Option Domain := Domain.all.find? fun d => decide ((e.domain.get d).state = .rising)

/-- R167: a waiting domain is eligible unless it is GNSS or MODEM and AUX is not ON. -/
def Energy.eligible (e : Energy) (d : Domain) : Bool :=
  match d with
  | .gnss | .modem => decide (e.domain.aux.state = .on)
  | .aux | .sensor | .storage | .heatBatt | .heatInst => true

/-- R168: the rise time of a domain, in oscillator ticks. -/
def riseTime : Domain → Nat
  | .aux => Config.riseAux
  | .sensor | .storage | .gnss | .modem | .heatBatt | .heatInst => Config.riseOther

/-- R167: the domain the sequencer grants the rising slot to: none while it is held, while the slot is taken, or while no
eligible domain waits. -/
def Energy.nextGrant (e : Energy) : Option Domain :=
  if e.level.isSome && e.rising.isNone then e.waitingList.find? e.eligible else none

/-- R166, R167, R168: the sequencer grants; power-good already present is taken at once. -/
def State.grantDomain (s : State) : State :=
  match s.energy.nextGrant with
  | none => s
  | some d =>
    let s := s.setDom d { s.dom d with state := .rising, riseDue := some (s.tb.osc + riseTime d) }
    if s.pins.powerGood.get d then s.enterOn d else s

/-- R166: power-good is present at a domain's input; a RISING domain enters ON. -/
def State.goodPresent (s : State) (d : Domain) : State :=
  let s := { s with pins := { s.pins with powerGood := s.pins.powerGood.set d true } }
  if (s.dom d).state = .rising then s.enterOn d else s

/-! ### The meanings of this family -/

/-- R167. -/
def execSequencerGrant (s : State) : Host.Outcome State Fault Refusal := .next s.grantDomain

/-- R166, R169. -/
def execPowerGoodPresent (d : Domain) (s : State) : Host.Outcome State Fault Refusal := .next (s.goodPresent d)

end Sys2Proof.Machine
end

