-- ==== Sys2Proof/Machine/Thermal.lean ====
section
/-! DEFINITION. Thermal Control (07, R140 to R157): acquisitions and channel faults, the vault-cold check, the heater controllers,
and the commands THM.ACQUIRE, THM.CLEAR and THM.READ; with the compensation (R4) and the charge-enable output (R180) that a
publication recomputes. -/

namespace Sys2Proof.Machine

open Sys2Proof

/-! ### What the publication reaches: compensation (R4) and charge-enable (R180) -/

/-- The compensation table's entries, E0 first (R4). -/
def State.compEntry (s : State) (i : Nat) : Int :=
  match Param.timeParams[12 + i]? with
  | some p => s.param p
  | none => 0

/-- R4: TC at an OSC temperature in 1/16 °C. -/
def State.compensation (s : State) (theta : Int) : Int :=
  if theta < -960 then s.compEntry 0
  else if 800 ≤ theta then s.compEntry 11
  else
    let i := (floorDiv (theta + 960) 160).toNat
    let base := -960 + 160 * (i : Int)
    s.compEntry i + truncDiv ((s.compEntry (i + 1) - s.compEntry i) * (theta - base)) 160

/-- R4: TC is recomputed from the OSC value in use; it is 0 while there has been none. -/
def State.recomputeTc (s : State) : State :=
  { s with
    tb :=
      { s.tb with
        tc :=
          match s.thermal.chan.osc.value with
          | some t => s.compensation t
          | none => 0 } }

/-- R180: the condition for charge-enable. -/
def State.mayCharge (s : State) : Bool :=
  s.pins.source && !s.thermal.chan.batt.fault
    && match s.thermal.chan.batt.value with
      | some t => decide (s.param .pwrChargeMin * 16 ≤ t) && decide (t ≤ s.param .pwrChargeMax * 16)
      | none => false

/-- R180: charge-enable is re-evaluated. -/
def State.chargeEnable (s : State) : State := { s with energy := { s.energy with chargeEnable := s.mayCharge } }

/-! ### The heater controllers (R145 to R149, R152) -/

/-- A heater's record. -/
def State.heater (s : State) (h : Heater) : HeaterRec := s.thermal.heater.get h

/-- A change of a heater's record. -/
def State.setHeater (s : State) (h : Heater) (r : HeaterRec) : State :=
  { s with thermal := { s.thermal with heater := s.thermal.heater.set h r } }

/-- The controlling channel of a heater (7.2). -/
def Heater.channel : Heater → Channel
  | .batt => .batt
  | .inst => .sensor

/-- The domain of a heater (7.2). -/
def Heater.domain : Heater → Domain
  | .batt => .heatBatt
  | .inst => .heatInst

/-- The record of a heater's controlling channel. -/
def State.heaterChan (s : State) (h : Heater) : ChanRec := s.thermal.chan.get (Heater.channel h)

/-- R152: the level inhibits the heater. -/
def State.inhibits (s : State) (h : Heater) : Bool :=
  match s.thermal.level with
  | .normal | .conserve => false
  | .dormant => true
  | .critical =>
    match h with
    | .inst => true
    | .batt =>
      !(s.thermal.source && !s.thermal.chan.batt.fault
        && match s.thermal.chan.batt.value with
          | some t => decide (t < s.param .pwrChargeMin * 16)
          | none => false)

/-- R148: the offset of the thresholds at the level last reported, in 1/16 °C. -/
def State.pointOffset (s : State) : Int :=
  if s.thermal.level = .conserve then s.param .thmConserveOffset * 16 else 0

/-- R148: the on point in force. -/
def State.onPoint (s : State) (h : Heater) : Int :=
  (match h with
    | .batt => s.param .thmBhLow
    | .inst => s.param .thmIhLow) * 16 - s.pointOffset

/-- R148: the off point in force. -/
def State.offPoint (s : State) (h : Heater) : Int :=
  (match h with
    | .batt => s.param .thmBhHigh
    | .inst => s.param .thmIhHigh) * 16 - s.pointOffset

/-- R148: the thermostat result at a value, from the base state. -/
def State.thermostat (s : State) (h : Heater) (theta : Int) : HeaterState :=
  if (s.heater h).state.requests then (if s.offPoint h ≤ theta then .heaterOff else .heating)
  else if theta < s.onPoint h then .heating
  else .heaterOff

/-- R149: the fallback phase. -/
def HeaterRec.fallback (r : HeaterRec) : HeaterState :=
  match r.state with
  | .heaterOff | .lockout | .inhibited | .faulted => .fallbackOff
  | .heating => .fallbackOn
  | .fallbackOn => if r.phase = .fallen then .fallbackOff else .fallbackOn
  | .fallbackOff => if r.phase = .fallen then .fallbackOn else .fallbackOff

/-- R147: the target of an evaluation. -/
def State.target (s : State) (h : Heater) : HeaterState :=
  let r := s.heater h
  if r.faulted then .faulted
  else if r.lockout then .lockout
  else if s.inhibits h then .inhibited
  else if (s.heaterChan h).fault then r.fallback
  else
    match (s.heaterChan h).value with
    | none => .heaterOff
    | some t => s.thermostat h t

/-- R147: targets that are taken at once, whatever the dwell timer. -/
def HeaterState.forcedTarget : HeaterState → Bool
  | .faulted | .lockout | .inhibited => true
  | .heaterOff | .heating | .fallbackOn | .fallbackOff => false

/-- The two fallback phases. -/
def HeaterState.inFallback : HeaterState → Bool
  | .fallbackOn | .fallbackOff => true
  | .heaterOff | .heating | .lockout | .inhibited | .faulted => false

/-- R147: the state the controller takes: its target, or, when the dwell holds the move, the state that keeps its request. -/
def HeaterRec.settle (r : HeaterRec) (target : HeaterState) : HeaterState :=
  if target.forcedTarget || decide (target.requests = r.state.requests) || r.dwell.isNone then target
  else if target.inFallback then r.state
  else if r.state.requests then .heating
  else .heaterOff

/-- R149: the length of a fallback phase. -/
def HeaterState.phaseLength : HeaterState → Nat
  | .fallbackOn => Config.fallbackOn
  | .heaterOff | .heating | .fallbackOff | .lockout | .inhibited | .faulted => Config.fallbackOff

/-- R149: the phase timer after a move: loaded on entry to a phase, stopped on leaving fallback. -/
def HeaterRec.phaseAfter (r : HeaterRec) (dest : HeaterState) (uptime : Nat) : Phase :=
  if dest.inFallback then (if dest = r.state then r.phase else .due (uptime + dest.phaseLength)) else .off

/-- R145, R147, R149: the controller takes a state. A change of its request loads the dwell timer and reaches the domain. -/
def State.moveHeater (s : State) (h : Heater) (dest : HeaterState) : State :=
  let r := s.heater h
  let changed := decide (dest.requests ≠ r.state.requests)
  let dwell := if changed then some (s.tb.uptime + s.paramN .thmDwell) else r.dwell
  let t := s.setHeater h { r with state := dest, phase := r.phaseAfter dest s.tb.uptime, dwell := dwell }
  if changed then t.request (Heater.domain h) dest.requests else t

/-- R147: an evaluation of a heater. -/
def State.evaluateHeater (s : State) (h : Heater) : State := s.moveHeater h ((s.heater h).settle (s.target h))

/-- Both heaters are evaluated (R146). -/
def State.evaluateHeaters (s : State) : State := (s.evaluateHeater .batt).evaluateHeater .inst

/-- R146: the dwell timer falls due. -/
def State.dwellTimer (s : State) (h : Heater) : State :=
  if s.dueNow (s.heater h).dwell then (s.setHeater h { s.heater h with dwell := none }).evaluateHeater h else s

/-- R146, R149: the phase timer falls due. -/
def State.phaseTimer (s : State) (h : Heater) : State :=
  match (s.heater h).phase with
  | .due d =>
    if d ≤ s.tb.uptime then (s.setHeater h { s.heater h with phase := .fallen }).evaluateHeater h else s
  | .off | .fallen => s

/-- R153: the heater's domain has entered FAULT. -/
def State.heaterFault (s : State) (h : Heater) : State :=
  (s.setHeater h { s.heater h with faulted := true }).evaluateHeater h

/-- R153: PWR.CLEAR has taken the heater's domain out of FAULT. -/
def State.heaterCleared (s : State) (h : Heater) : State :=
  (s.setHeater h { s.heater h with faulted := false }).evaluateHeater h

/-- R146, R180: the Energy Unit reports the charge source. -/
def State.sourceReport (s : State) (b : Bool) : State :=
  ({ s with thermal := { s.thermal with source := b } } : State).evaluateHeater .batt

/-- R146: the Energy Unit reports a level. -/
def State.levelToThermal (s : State) (l : Level) : State :=
  ({ s with thermal := { s.thermal with level := l } } : State).evaluateHeaters

/-! ### Acquisitions (R140 to R144, R150) -/

/-- R140: an acquisition starts. -/
def State.startAcquisition (s : State) : State :=
  { s with thermal := { s.thermal with completes := some (s.tb.osc + Config.acquisitionTicks) } }

/-- R140: the acquisition timer falls due: it is reloaded from the moment it fell due, and an acquisition starts unless one is
running. -/
def State.acquisitionTimer (s : State) : State :=
  if s.thermal.timerDue ≤ s.tb.uptime then
    let s := { s with thermal := { s.thermal with timerDue := s.thermal.timerDue + s.paramN .thmInterval } }
    if s.thermal.completes.isNone then s.startAcquisition else s
  else s

/-- The sum of the thermistor table's steps below a code. -/
def thermistorRise : Nat → Nat
  | 0 => 0
  | n + 1 => thermistorRise n + Config.thermistorStep n

/-- R142: the part's fixed thermistor table, a monotone function of the code; its values are free. -/
def thermistor (code : Nat) : Int :=
  if Config.thermistorRises then Config.thermistorBase + (thermistorRise code : Int)
  else Config.thermistorBase - (thermistorRise code : Int)

/-- R142: a code is a faulty reading at either end of its range. -/
def faultyCode (code : Nat) : Bool := decide (code = 0) || decide (4095 ≤ code)

/-- R142: one channel's record after its code is judged. -/
def ChanRec.read (c : ChanRec) (code : Nat) : ChanRec :=
  if faultyCode code then
    { c with
      faulty := satNat 3 (c.faulty + 1)
      last := some .faulty
      fault := c.fault || decide (3 ≤ c.faulty + 1) }
  else { value := some (clampInt (-960) 1120 (thermistor code)), fault := false, faulty := 0, last := some .good }

/-- R142: a channel's code is judged; entry to FAULT posts CHANNEL_FAULT and raises THERMAL. -/
def State.readChannel (s : State) (c : Channel) (code : Nat) : State :=
  let r := s.thermal.chan.get c
  let t := { s with thermal := { s.thermal with chan := s.thermal.chan.set c (r.read code) } }
  if (r.read code).fault && !r.fault then (t.post (.channelFault c)).raiseBoth .thermal else t

/-- R144: the vault-cold check, on a good VAULT reading. -/
def State.vaultCheck (s : State) : State :=
  match s.thermal.chan.vault.last, s.thermal.chan.vault.value with
  | some .good, some t =>
    if t < s.param .thmVaultCold * 16 then
      if s.thermal.armed then ({ s with thermal := { s.thermal with armed := false } } : State).post .vaultCold else s
    else if (s.param .thmVaultCold + 2) * 16 ≤ t then { s with thermal := { s.thermal with armed := true } }
    else s
  | _, _ => s

/-- R150: the hot count of a heater whose lockout latch is clear, after a reading of its channel. -/
def State.hotCount (s : State) (h : Heater) : Nat :=
  match (s.heaterChan h).last, (s.heaterChan h).value with
  | some .good, some t => if s.param .thmHot * 16 ≤ t then (s.heater h).hot + 1 else 0
  | _, _ => (s.heater h).hot

/-- R150: the channel's reading is good and at or below thm.cool. -/
def State.coolReading (s : State) (h : Heater) : Bool :=
  match (s.heaterChan h).last, (s.heaterChan h).value with
  | some .good, some t => decide (t ≤ s.param .thmCool * 16)
  | _, _ => false

/-- R150: the channel's reading is good and at or above thm.hot. -/
def State.hotReading (s : State) (h : Heater) : Bool :=
  match (s.heaterChan h).last, (s.heaterChan h).value with
  | some .good, some t => decide (s.param .thmHot * 16 ≤ t)
  | _, _ => false

/-- R150: a heater's overtemperature state after a completion. A trip comes of a good reading at or above thm.hot (R155). -/
def State.overtemperature (s : State) (h : Heater) : State :=
  let r := s.heater h
  if r.lockout then s.setHeater h { r with coolSeen := r.coolSeen || s.coolReading h }
  else if s.hotReading h && decide (s.paramN .thmHotCount ≤ s.hotCount h) then
    ((s.setHeater h { r with lockout := true, coolSeen := false, hot := 0 }).post (.heaterLockout h)).raiseBoth .thermal
  else s.setHeater h { r with hot := s.hotCount h }

/-- R143: a heater's hot-reading count, then its evaluation. -/
def State.heaterAfterReading (s : State) (h : Heater) : State := (s.overtemperature h).evaluateHeater h

/-- R140, R142, R143: what happens at a completion, with the four codes. -/
def State.applyReadings (s : State) (vault osc batt sensor : Nat) : State :=
  let s := { s with thermal := { s.thermal with completes := none, latest := some s.tb.uptime } }
  let s := (((s.readChannel .vault vault).readChannel .osc osc).readChannel .batt batt).readChannel .sensor sensor
  let s := (s.recomputeTc).chargeEnable
  ((s.vaultCheck).heaterAfterReading .batt).heaterAfterReading .inst

/-- R140: a running acquisition completes 500 ms after its start. -/
def State.completeAcquisition (s : State) (vault osc batt sensor : Nat) : State :=
  match s.thermal.completes with
  | none => s
  | some due =>
    match s.reach due with
    | some t => t.applyReadings vault osc batt sensor
    | none => s

/-! ### The commands (R141, R151, R154) -/

/-- R141: THM.ACQUIRE. -/
def cmdThmAcquire (p : Port) (args : Text) (s : State) : State :=
  s.noArg p "THM.ACQUIRE" args fun s =>
    (if s.thermal.completes.isNone then s.startAcquisition else s).respond p (reply .ok "THM.ACQUIRE" [])

/-- R151: THM.CLEAR. -/
def cmdThmClear (p : Port) (args : Text) (s : State) : State :=
  match tokens args with
  | [w] =>
    match heaterWord w with
    | none => s.respond p (reply .badSyntax "THM.CLEAR" [])
    | some h =>
      let ok := reply .ok "THM.CLEAR" [field "heater" h.name.toList]
      let r := s.heater h
      if r.lockout = false then s.respond p ok
      else if r.coolSeen = false then s.respond p (reply .state "THM.CLEAR" [])
      else
        ((s.setHeater h { r with lockout := false, coolSeen := false, hot := 0 }).evaluateHeater h).respond p ok
  | _ => s.respond p (reply .badSyntax "THM.CLEAR" [])

/-- The fields of a channel (11.2.4). DEDUCED (log entry 51): the value is written as the channel holds it, in 1/16 °C (7.1). -/
def ChanRec.fields (c : ChanRec) (q : String) : List Text :=
  [field ("value." ++ q) (optText intText c.value), field ("fault." ++ q) (yesNo c.fault),
    field ("faulty." ++ q) (natText c.faulty),
    field ("last." ++ q) (optText (fun r : Reading => r.name.toList) c.last)]

/-- The phase field of THM.READ (11.2.4). -/
def phaseText : Phase → Text
  | .off => ['*']
  | .due d => natText d
  | .fallen => "FALLEN_DUE".toList

/-- The fields of a heater (11.2.4). DESIGN CHOICE (log entry 46): the on and off points written are those of the working table
as it stands at the read. A SET of a threshold takes effect at the next evaluation (R155), and R154 does not say which points are
in force between the two. -/
def State.heaterFields (s : State) (h : Heater) (q : String) : List Text :=
  let r := s.heater h
  [field ("state." ++ q) r.state.name.toList, field ("request." ++ q) (yesNo r.state.requests),
    field ("on." ++ q) (intText (s.onPoint h)), field ("off." ++ q) (intText (s.offPoint h)),
    field ("dwell." ++ q) (optText natText r.dwell), field ("phase." ++ q) (phaseText r.phase),
    field ("hot." ++ q) (natText r.hot), field ("lockout." ++ q) (yesNo r.lockout),
    field ("cool_seen." ++ q) (yesNo r.coolSeen), field ("faulted." ++ q) (yesNo r.faulted)]

/-- R154: the snapshot of the Thermal Unit. -/
def State.thmFields (s : State) : List Text :=
  let t := s.thermal
  t.chan.vault.fields "vault" ++ t.chan.osc.fields "osc" ++ t.chan.batt.fields "batt" ++ t.chan.sensor.fields "sensor"
    ++ [field "acquisition" (if t.completes.isSome then "RUNNING".toList else "IDLE".toList),
      field "completion" (optText natText t.latest), field "acquisition_due" (natText t.timerDue),
      field "armed" (yesNo t.armed), field "level" t.level.name.toList, field "source" (yesNo t.source)]
    ++ s.heaterFields .batt "batt" ++ s.heaterFields .inst "inst"

/-- R154: THM.READ. -/
def cmdThmRead (p : Port) (args : Text) (s : State) : State :=
  s.noArg p "THM.READ" args fun s => s.respond p (reply .ok "THM.READ" s.thmFields)

/-! ### Restart (R157) -/

/-- R157: a heater at a warm restart: its dwell timer stops and a fallback phase is loaded afresh. -/
def HeaterRec.restart (r : HeaterRec) (uptime : Nat) : HeaterRec :=
  { r with dwell := none, phase := if r.state.inFallback then .due (uptime + r.state.phaseLength) else r.phase }

/-- R157: the Thermal Unit at a warm restart: a new acquisition starts at once and each heater is evaluated. -/
def State.restartThermal (s : State) : State :=
  let s :=
    { s with
      thermal :=
        { s.thermal with
          timerDue := s.tb.uptime + s.paramN .thmInterval
          heater :=
            ⟨s.thermal.heater.batt.restart s.tb.uptime, s.thermal.heater.inst.restart s.tb.uptime⟩ } }
  s.startAcquisition.evaluateHeaters

/-! ### The meanings of this family -/

/-- R140. -/
def execAcquisitionTimer (s : State) : Host.Outcome State Fault Refusal := .next s.acquisitionTimer

/-- R140, R142 to R144, R150. -/
def execAcquisitionComplete (vault osc batt sensor : BitVec 12) (s : State) : Host.Outcome State Fault Refusal :=
  .next (s.completeAcquisition vault.toNat osc.toNat batt.toNat sensor.toNat)

def execThmAcquire (p : Port) (args : Text) (s : State) : Host.Outcome State Fault Refusal :=
  .next (s.takeLine p (cmdThmAcquire p args))

def execThmClear (p : Port) (args : Text) (s : State) : Host.Outcome State Fault Refusal :=
  .next (s.takeLine p (cmdThmClear p args))

def execThmRead (p : Port) (args : Text) (s : State) : Host.Outcome State Fault Refusal :=
  .next (s.takeLine p (cmdThmRead p args))

/-- R146, R147. -/
def execDwellTimer (h : Heater) (s : State) : Host.Outcome State Fault Refusal := .next (s.dwellTimer h)

/-- R146, R149. -/
def execPhaseTimer (h : Heater) (s : State) : Host.Outcome State Fault Refusal := .next (s.phaseTimer h)

end Sys2Proof.Machine
end

