-- ==== Sys2Proof/Machine/Session.lean ====
section
/-! DEFINITION. GNSS sessions of the Station Timebase (01, R8 to R14, R21): what a change of clock state or class brings, when a
session may start, its start, its failure and its end, and TIME.SESSION. -/

namespace Sys2Proof.Machine

open Sys2Proof

/-! ### Changes of clock state and class (R8, R23) -/

/-- R8, R23: what a change of clock state or class since the Timebase stood at `before` brings: TIME_CHANGED, and DEGRADED when
the class worsens from MILLI or better to COARSE or POOR. -/
def State.noteClock (before : Timebase) (s : State) : State :=
  let s :=
    if before.clock = s.tb.clock ∧ before.cls = s.tb.cls then s else s.raiseBoth .timeChanged
  if before.cls.goodTime && s.tb.cls.degradedTime then s.post .degraded else s

/-! ### Starting a session (R9 to R13) -/

/-- The three ways a session may start (R9). -/
inductive StartKind
  | scheduled
  | threshold
  | command
  deriving DecidableEq, Repr

/-- R9: the level permits a start. -/
def State.permits (s : State) (k : StartKind) : Bool :=
  match s.energy.level with
  | none => false
  | some .normal => true
  | some .conserve => decide (k ≠ .scheduled)
  | some .critical => decide (s.tb.cls = .poor) || decide (s.tb.cls = .none)
  | some .dormant => false

/-- R10: the schedule timer is reloaded. -/
def State.reloadSchedule (s : State) : State :=
  { s with tb := { s.tb with scheduleDue := s.tb.uptime + s.paramN .timeSessionInterval * 3600 } }

/-- R13: a session starts. -/
def State.startSession (s : State) : State :=
  let s := s.reloadSchedule
  let s :=
    { s with
      tb :=
        { s.tb with
          session := .powering
          sessionStart := s.tb.uptime
          buffer := none
          reference := none
          goodCount := 0 } }
  s.request .gnss true

/-- R10: the schedule timer falls due. -/
def State.scheduleTimer (s : State) : State :=
  if s.tb.scheduleDue ≤ s.tb.uptime then
    let s := s.reloadSchedule
    if s.tb.session = .idle ∧ s.permits .scheduled = true then s.startSession else s
  else s

/-- R11: the hold-off falls due and stops running. -/
def State.holdOffDue (s : State) : State :=
  if s.dueNow s.tb.holdOffDue then { s with tb := { s.tb with holdOffDue := none } } else s

/-- R11: the threshold test of a rollover. -/
def State.thresholdSession (s : State) : State :=
  if s.tb.session = .idle ∧ s.paramN .timeSessionThreshold < s.tb.u ∧ s.permits .threshold = true ∧ s.tb.holdOffDue = none then
    s.startSession
  else s

/-! ### Failure and end (R14, R21) -/

/-- The Timebase's own part of a session failure (R14), the count of three aside. -/
def Timebase.failed (t : Timebase) : Timebase :=
  { t with
    session := .idle
    continuing := false
    clock := if t.clock = .locked then .holdover else t.clock
    buffer := none
    reference := none
    window := none
    p := 0
    holdOffDue := some (t.uptime + Config.holdOff)
    failures := t.failures + 1 }

/-- R14: the session fails; IDLE has no session to fail. The third failure in a row posts SESSIONS. -/
def State.failSession (s : State) : State :=
  if s.tb.session = .idle then s
  else
    let t := ({ s with tb := s.tb.failed } : State).request .gnss false
    let t := t.noteClock s.tb
    if 3 ≤ t.tb.failures then ({ t with tb := { t.tb with failures := 0 } } : State).post .sessions else t

/-- R14: the session limit, at a rollover in POWERING or SEEKING. -/
def State.sessionLimit (s : State) : State :=
  if (s.tb.session = .powering ∨ s.tb.session = .seeking)
      ∧ s.tb.sessionStart + s.paramN .timeSessionLimit ≤ s.tb.uptime then s.failSession
  else s

/-- R9: the Energy Unit reports a level to the Timebase. -/
def State.levelToTimebase (s : State) (l : Level) : State := if l = .dormant then s.failSession else s

/-- R21: the session continues past its settle count. -/
def State.continues (s : State) : Bool :=
  decide (s.paramN .timeContinuous = 1) && decide (s.energy.level = some .normal)

/-- R21: the session ends. P keeps its value, and the failure count becomes 0. -/
def State.endSession (s : State) : State :=
  let t :=
    { s with
      tb :=
        { s.tb with
          session := .idle
          continuing := false
          clock := .holdover
          window := none
          buffer := none
          reference := none
          u16 := 16 * s.paramN .timeLockFloor
          failures := 0 } }
  (t.request .gnss false).noteClock s.tb

/-! ### The command (R12) -/

/-- R12: TIME.SESSION. -/
def cmdTimeSession (p : Port) (args : Text) (s : State) : State :=
  s.noArg p "TIME.SESSION" args fun s =>
    if s.tb.session = .idle then
      if s.permits .command then s.startSession.respond p (reply .ok "TIME.SESSION" [])
      else s.respond p (reply .level "TIME.SESSION" [])
    else s.respond p (reply .ok "TIME.SESSION" [])

/-! ### The meanings of this family -/

/-- R10. -/
def execScheduleTimer (s : State) : Host.Outcome State Fault Refusal := .next s.scheduleTimer

/-- R11. -/
def execHoldOffDue (s : State) : Host.Outcome State Fault Refusal := .next s.holdOffDue

/-- R14. -/
def execSessionLimit (s : State) : Host.Outcome State Fault Refusal := .next s.sessionLimit

def execTimeSession (p : Port) (args : Text) (s : State) : Host.Outcome State Fault Refusal :=
  .next (s.takeLine p (cmdTimeSession p args))

end Sys2Proof.Machine
end

