-- ==== Sys2Proof/Machine/Energy.lean ====
section
/-! DEFINITION. Energy Management (08, R158 to R182, R184): the measurement, the level and what its change brings, domain faults,
leases, the charge-source input, and the commands PWR.LEASE, PWR.RELEASE, PWR.CLEAR and PWR.READ. Requests, drops and the
sequencer stand in Domains. -/

namespace Sys2Proof.Machine

open Sys2Proof

/-! ### Leases (R173 to R179) -/

/-- The keys of the lease table, in the order of PWR.READ (11.2.4). DESIGN CHOICE (log entry 42): leases that end together end in
this order, so that of two of one port STORAGE stands as its last lease end; R177 gives no order. -/
def leaseKeys : List (Port × LeaseDomain) := [(.a, .modem), (.a, .storage), (.b, .modem), (.b, .storage)]

/-- The lease of a key. -/
def Energy.leaseOf (e : Energy) (p : Port) (d : LeaseDomain) : Option Lease := (e.lease.get p).get d

/-- A change of a key's lease. -/
def Energy.setLease (e : Energy) (p : Port) (d : LeaseDomain) (x : Option Lease) : Energy :=
  { e with lease := e.lease.set p ((e.lease.get p).set d x) }

/-- R165: a lease stands on the domain. -/
def Energy.leased (e : Energy) (d : LeaseDomain) : Bool := (e.leaseOf .a d).isSome || (e.leaseOf .b d).isSome

/-- R177: a lease ends: the last lease end is recorded, LEASE_ENDED is raised toward the holder unless the end is `quiet` (a
warm restart, R184), and the domain is dropped when no other lease on it remains. -/
def State.endLease (s : State) (p : Port) (d : LeaseDomain) (reason : EndReason) (quiet : Bool) : State :=
  match s.energy.leaseOf p d with
  | none => s
  | some _ =>
    let e := s.energy.setLease p d none
    let s := { s with energy := { e with lastEnd := e.lastEnd.set p (some ⟨d, reason, s.tb.uptime⟩) } }
    let s := if quiet then s else s.raise p .leaseEnded
    if s.energy.leased d then s else s.request d.domain false

/-- The leases of a list of keys end with one reason. -/
def State.endLeases (s : State) (reason : EndReason) (quiet : Bool) : List (Port × LeaseDomain) → State
  | [] => s
  | k :: l => State.endLeases (s.endLease k.1 k.2 reason quiet) reason quiet l

/-- R175: the maximum a level allows, in seconds, `none` for a refusal; the alert test of CRITICAL is left to the grant. -/
def leaseMax : Level → LeaseDomain → Purpose → Option Nat
  | .normal, _, _ => some 3600
  | .conserve, .modem, .routine => some 300
  | .conserve, .modem, .alert => some 3600
  | .conserve, .storage, _ => some 600
  | .critical, .modem, .routine => none
  | .critical, .modem, .alert => some 300
  | .critical, .storage, _ => some 120
  | .dormant, _, _ => none

/-- R175: the maximum at a grant, with the alert test. -/
def State.grantMax (s : State) (l : Level) (d : LeaseDomain) (u : Purpose) : Option Nat :=
  if l = .critical ∧ d = .modem ∧ s.alerts.holdsNotable = false then none else leaseMax l d u

/-- R179: one lease meets the maximum of a lower level. -/
def State.limitLease (s : State) (l : Level) (p : Port) (d : LeaseDomain) : State :=
  match s.energy.leaseOf p d with
  | none => s
  | some x =>
    match leaseMax l d x.purpose with
    | none => s.endLease p d .revoked false
    | some m =>
      { s with energy := s.energy.setLease p d (some { x with expiry := min x.expiry (s.tb.uptime + m) }) }

/-- R179: the leases of a list of keys meet the maxima of a lower level. -/
def State.limitLeases (s : State) (l : Level) : List (Port × LeaseDomain) → State
  | [] => s
  | k :: t => State.limitLeases (s.limitLease l k.1 k.2) l t

/-- R178: a lease whose expiry has been reached ends EXPIRED. -/
def State.expireLease (s : State) (p : Port) (d : LeaseDomain) : State :=
  match s.energy.leaseOf p d with
  | none => s
  | some x => if x.expiry ≤ s.tb.uptime then s.endLease p d .expired false else s

/-- R178: the leases of a list of keys are tested for expiry. -/
def State.expireLeases (s : State) : List (Port × LeaseDomain) → State
  | [] => s
  | k :: t => State.expireLeases (s.expireLease k.1 k.2) t

/-! ### The level (R162 to R164) -/

/-- R163: the downward candidate. -/
def State.downward (s : State) (soc v : Nat) : Level :=
  if soc < s.paramN .pwrDormant ∨ v < s.paramN .pwrCutoff then .dormant
  else if soc < s.paramN .pwrCritical then .critical
  else if soc < s.paramN .pwrConserve then .conserve
  else .normal

/-- R163: the upward candidate at a level. -/
def State.upward (s : State) (l : Level) (soc v : Nat) : Level :=
  let h := s.paramN .pwrHysteresis
  if l = .dormant ∧ v < s.paramN .pwrCutoff + 600 then .dormant
  else if s.paramN .pwrConserve + h ≤ soc then .normal
  else if s.paramN .pwrCritical + h ≤ soc then .conserve
  else if s.paramN .pwrDormant + h ≤ soc then .critical
  else .dormant

/-- R162, R163: the level after an evaluation. -/
def State.nextLevel (s : State) (l : Option Level) (soc v : Nat) : Level :=
  match l with
  | none => s.downward soc v
  | some l =>
    if (s.downward soc v).rank < l.rank then s.downward soc v
    else if l.rank < (s.upward l soc v).rank then s.upward l soc v
    else l

/-- R164: the POWER alert of entry to a level. -/
def State.postLevel (s : State) : Level → State
  | .normal => s
  | .conserve => s.post .conserve
  | .critical => s.post .critical
  | .dormant => s.post .dormant

/-- R164, R165: what a new level does to SENSOR and to the heater domains. -/
def State.levelDomains (s : State) (before : Option Level) (l : Level) : State :=
  let s := s.request .sensor (decide (l ≠ .dormant))
  if l = .dormant then (s.turnOff .heatBatt).turnOff .heatInst
  else if before = some .dormant then (s.wait .heatBatt).wait .heatInst
  else s

/-- R164: the level has fallen. -/
def fallen (before : Option Level) (l : Level) : Bool :=
  match before with
  | some b => decide (l.rank < b.rank)
  | none => false

/-- R164: the level changes, or is determined for the first time (R162). -/
def State.changeLevel (s : State) (l : Level) : State :=
  let before := s.energy.level
  let s := { s with energy := { s.energy with level := some l } }
  let s := (s.raiseBoth .levelChanged).postLevel l
  let s := if fallen before l then s.limitLeases l leaseKeys else s
  (((s.levelDomains before l).levelToTimebase l).levelToThermal l).levelToTrigger l

/-! ### The measurement (R158 to R161) -/

/-- R182: pwr.capacity is taken at the measurement; a change that SET made of it sets ESTIMATED and clears the resync count. -/
def Energy.takeCapacity (e : Energy) (cFull : Nat) : Energy :=
  { e with
    cFull := cFull
    charge := min e.charge cFull
    estimated := e.estimated || e.capacityChanged
    resync := if e.capacityChanged then 0 else e.resync
    capacityChanged := false }

/-- R159: the charge counter moves by the current of one second. -/
def Energy.integrate (e : Energy) (i : Int) (accept : Nat) : Energy :=
  { e with charge := if i < 0 then e.charge - i.natAbs else min e.cFull (e.charge + i.toNat * accept / 100) }

/-- R160: the full-charge test; the 600th measurement in a row makes a resync. -/
def Energy.fullTest (e : Energy) (meets : Bool) : Energy :=
  if meets then
    if Config.resyncCount ≤ e.resync + 1 then { e with charge := e.cFull, estimated := false, resync := 0 }
    else { e with resync := e.resync + 1 }
  else { e with resync := 0 }

/-- R161: the derate entry of the BATT channel. -/
def ChanRec.derateEntry (c : ChanRec) : Nat :=
  match c.value with
  | none => 0
  | some t =>
    if c.fault then 0
    else if t < -640 then 0
    else if 320 ≤ t then 6
    else (floorDiv (t + 640) 160).toNat

/-- R161: the derate of an entry, in percent. -/
def State.derate (s : State) (entry : Nat) : Nat :=
  match Param.pwrParams[12 + entry]? with
  | some p => s.paramN p
  | none => 0

/-- R161: the usable charge and the SoC. -/
def Energy.estimate (e : Energy) (entry derate : Nat) : Energy :=
  let usable := e.cFull * derate / 100
  { e with entry := some entry, usable := some usable, soc := some (min 100 (100 * e.charge / usable)) }

/-- R158 to R161, R182: the Energy Unit's quantities after a measurement of `v` and `i`. -/
def State.measured (s : State) (v : Nat) (i : Int) : Energy :=
  let entry := s.thermal.chan.batt.derateEntry
  let meets := decide (s.paramN .pwrFullV ≤ v) && decide (0 ≤ i) && decide (i ≤ s.param .pwrTaper)
  ((((s.energy.takeCapacity (s.paramN .pwrCapacity * 3600000)).integrate i (s.paramN .pwrAccept)).fullTest meets).estimate
    entry (s.derate entry))

/-- R158: a measurement of `v` and `i`, which the monitor inputs show. The first one determines the level (R162) and reports the
charge source (R180). DESIGN CHOICE (log entry 47): at that first one the level report reaches the Thermal Unit before the
charge-source report; R146 lets the BATT controller be evaluated on either first. -/
def State.measure (s : State) (v : Nat) (i : Int) : State :=
  let before := s.energy.level
  let s := { s with energy := { s.measured v i with v := some v, i := some i } }
  let l := s.nextLevel before (s.energy.soc.getD 0) v
  let s := if before = some l then s else s.changeLevel l
  if before.isNone then (s.sourceReport s.pins.source).chargeEnable else s

/-! ### Domain faults (R168, R170) -/

/-- R170: GNSS is turned OFF by the AUX fault while it is requested, and is in a state it can be turned OFF from. -/
def Energy.gnssForced (e : Energy) : Bool :=
  e.domain.gnss.requested
    && (decide (e.domain.gnss.state = .waiting) || decide (e.domain.gnss.state = .rising)
      || decide (e.domain.gnss.state = .on))

/-- R170: the consequences of a fault, for the domain. `was`: the domain was ON. -/
def State.faultConsequences (s : State) (d : Domain) (was : Bool) : State :=
  match d with
  | .aux =>
    let forced := s.energy.gnssForced
    let s := s.endLeases .fault false [(.a, .modem), (.b, .modem)]
    let s := (s.turnOff .gnss).turnOff .modem
    if forced then s.failSession else s
  | .sensor => s.sensorOff
  | .gnss => s.failSession
  | .modem => s.endLeases .fault false [(.a, .modem), (.b, .modem)]
  | .storage => s.endLeases .fault false [(.a, .storage), (.b, .storage)]
  | .heatBatt => (if was then s.heaterSwitched else s).heaterFault .batt
  | .heatInst => (if was then s.heaterSwitched else s).heaterFault .inst

/-- R170: a domain enters FAULT. -/
def State.enterFault (s : State) (d : Domain) : State :=
  let was := decide ((s.dom d).state = .on)
  let s := s.setDom d { s.dom d with state := .fault, riseDue := none }
  ((s.raiseBoth .domainFault).post (.domainFault d)).faultConsequences d was

/-- R166: power-good is lost at a domain's input; an ON domain enters FAULT. -/
def State.goodLost (s : State) (d : Domain) : State :=
  let s := { s with pins := { s.pins with powerGood := s.pins.powerGood.set d false } }
  if (s.dom d).state = .on then s.enterFault d else s

/-- R166, R168: a RISING domain's rise timer falls due. -/
def State.riseTimer (s : State) (d : Domain) : State :=
  if (s.dom d).state = .rising then
    match (s.dom d).riseDue with
    | some due =>
      match s.reach due with
      | some t => t.enterFault d
      | none => s
    | none => s
  else s

/-! ### The charge source (R180) -/

/-- R180: the charge-source-present input changes. -/
def State.sourceChange (s : State) (b : Bool) : State :=
  if s.pins.source = b then s
  else (({ s with pins := { s.pins with source := b } } : State).sourceReport b).chargeEnable

/-! ### The commands (R172, R174, R178, R181) -/

/-- R174: the lease of a grant of `n` seconds. -/
def State.grantLease (s : State) (p : Port) (d : LeaseDomain) (u : Purpose) (n : Nat) : State :=
  ({ s with energy := s.energy.setLease p d (some ⟨u, n, s.tb.uptime, s.tb.uptime + n⟩) } : State).request d.domain true

/-- R174: a request of `n` seconds, limited to 10..3,600 and then to the level's maximum. -/
def grantSeconds (n : Int) (m : Nat) : Nat := min m (clampInt 10 3600 n).toNat

/-- R174: the domain is in FAULT, or is MODEM with AUX in FAULT. -/
def Energy.leaseFault (e : Energy) (d : LeaseDomain) : Bool :=
  decide ((e.domain.get d.domain).state = .fault) || (decide (d = .modem) && decide (e.domain.aux.state = .fault))

/-- R174: PWR.LEASE, judged for a leasable domain. -/
def State.judgeLease (s : State) (p : Port) (d : LeaseDomain) (n : Int) (u : Purpose) : State :=
  let name := field "domain" d.domain.name.toList
  match s.energy.level with
  | none => s.respond p (reply .level "PWR.LEASE" [name])
  | some l =>
    if s.energy.leaseFault d then s.respond p (reply .state "PWR.LEASE" [name])
    else
      match s.grantMax l d u with
      | none => s.respond p (reply .level "PWR.LEASE" [name])
      | some m =>
        let k := grantSeconds n m
        (s.grantLease p d u k).respond p
          (reply (if (k : Int) = n then .ok else .clamped) "PWR.LEASE"
            [name, field "granted" (natText k), field "expiry" (natText (s.tb.uptime + k))])

/-- R174 to R176: PWR.LEASE. -/
def cmdPwrLease (p : Port) (args : Text) (s : State) : State :=
  match tokens args with
  | [w, t, u] =>
    match domainWord w, numberToken t, purposeWord u with
    | some d, some n, some u =>
      match leasable d with
      | some d => s.judgeLease p d n u
      | none => s.respond p (reply .range "PWR.LEASE" [field "domain" d.name.toList])
    | _, _, _ => s.respond p (reply .badSyntax "PWR.LEASE" [])
  | _ => s.respond p (reply .badSyntax "PWR.LEASE" [])

/-- R178: PWR.RELEASE. -/
def cmdPwrRelease (p : Port) (args : Text) (s : State) : State :=
  match tokens args with
  | [w] =>
    match domainWord w with
    | none => s.respond p (reply .badSyntax "PWR.RELEASE" [])
    | some d =>
      match leasable d with
      | none => s.respond p (reply .range "PWR.RELEASE" [])
      | some k =>
        match s.energy.leaseOf p k with
        | some _ =>
          (s.endLease p k .released false).respond p (reply .ok "PWR.RELEASE" [field "domain" d.name.toList])
        | none => s.respond p (reply .missing "PWR.RELEASE" [])
  | _ => s.respond p (reply .badSyntax "PWR.RELEASE" [])

/-- R169: PWR.CLEAR of a heater domain is told to the Thermal Unit. -/
def State.tellCleared (s : State) : Domain → State
  | .heatBatt => s.heaterCleared .batt
  | .heatInst => s.heaterCleared .inst
  | .aux | .sensor | .storage | .gnss | .modem => s

/-- R166, R172: a domain is taken out of FAULT. -/
def State.clearDomain (s : State) (d : Domain) : State :=
  ((s.setDom d { s.dom d with state := .off }).tellCleared d).wait d

/-- R172: PWR.CLEAR. -/
def cmdPwrClear (p : Port) (args : Text) (s : State) : State :=
  match tokens args with
  | [w] =>
    match domainWord w with
    | none => s.respond p (reply .badSyntax "PWR.CLEAR" [])
    | some d =>
      if (s.dom d).state = .fault then
        (s.clearDomain d).respond p (reply .ok "PWR.CLEAR" [field "domain" d.name.toList])
      else s.respond p (reply .state "PWR.CLEAR" [])
  | _ => s.respond p (reply .badSyntax "PWR.CLEAR" [])

/-- The qualifier of a domain in a key (R213). -/
def domainKey : Domain → String
  | .aux => "aux"
  | .sensor => "sensor"
  | .storage => "storage"
  | .gnss => "gnss"
  | .modem => "modem"
  | .heatBatt => "heat_batt"
  | .heatInst => "heat_inst"

/-- The fields of a domain (11.2.4). -/
def State.domainFields (s : State) (d : Domain) : List Text :=
  [field ("state." ++ domainKey d) (s.dom d).state.name.toList,
    field ("requested." ++ domainKey d) (yesNo (s.dom d).requested),
    field ("held." ++ domainKey d) (yesNo (s.heldOff d))]

/-- A lease field (11.2.4). -/
def leaseField (k : Port × LeaseDomain) (x : Lease) : Text :=
  field "lease"
    (partsText
      [k.1.name.toList, k.2.domain.name.toList, x.purpose.name.toList, natText x.granted, natText x.grantedAt,
        natText x.expiry])

/-- A last lease end (11.2.4). -/
def LeaseEnd.text (x : LeaseEnd) : Text :=
  partsText [x.domain.domain.name.toList, x.reason.name.toList, natText x.uptime]

/-- R181: the snapshot of the Energy Unit. -/
def State.pwrFields (s : State) : List Text :=
  let e := s.energy
  [field "v" (optText natText e.v), field "i" (optText intText e.i), field "charge" (natText e.charge),
    field "c_full" (natText e.cFull), field "estimated" (yesNo e.estimated), field "resync" (natText e.resync),
    field "entry" (optText natText e.entry), field "usable" (optText natText e.usable),
    field "soc" (optText natText e.soc), field "level" (optText (fun l : Level => l.name.toList) e.level)]
    ++ ([Domain.aux, .sensor, .gnss, .modem, .storage, .heatBatt, .heatInst].flatMap s.domainFields)
    ++ [field "waiting" (listText (e.waitingList.map fun d => d.name.toList)),
      field "rising" (optText (fun d : Domain => d.name.toList) e.rising)]
    ++ (leaseKeys.filterMap fun k => (e.leaseOf k.1 k.2).map (leaseField k))
    ++ [field "last_end.a" (optText LeaseEnd.text e.lastEnd.a), field "last_end.b" (optText LeaseEnd.text e.lastEnd.b),
      field "source" (yesNo s.pins.source), field "enable" (yesNo e.chargeEnable)]

/-- R181: PWR.READ. -/
def cmdPwrRead (p : Port) (args : Text) (s : State) : State :=
  s.noArg p "PWR.READ" args fun s => s.respond p (reply .ok "PWR.READ" s.pwrFields)

/-! ### Restart (R184) -/

/-- R184: every lease ends REVOKED at a warm restart, without LEASE_ENDED. -/
def State.restartLeases (s : State) : State := s.endLeases .revoked true leaseKeys

/-! ### The meanings of this family -/

/-- R166, R170. -/
def execPowerGoodLost (d : Domain) (s : State) : Host.Outcome State Fault Refusal := .next (s.goodLost d)

/-- R168, R170. -/
def execRiseTimer (d : Domain) (s : State) : Host.Outcome State Fault Refusal := .next (s.riseTimer d)

/-- R178. -/
def execLeaseExpiry (s : State) : Host.Outcome State Fault Refusal := .next (s.expireLeases leaseKeys)

/-- R180. -/
def execChargeSourceChange (present : Bool) (s : State) : Host.Outcome State Fault Refusal := .next (s.sourceChange present)

def execPwrLease (p : Port) (args : Text) (s : State) : Host.Outcome State Fault Refusal :=
  .next (s.takeLine p (cmdPwrLease p args))

def execPwrRelease (p : Port) (args : Text) (s : State) : Host.Outcome State Fault Refusal :=
  .next (s.takeLine p (cmdPwrRelease p args))

def execPwrClear (p : Port) (args : Text) (s : State) : Host.Outcome State Fault Refusal :=
  .next (s.takeLine p (cmdPwrClear p args))

def execPwrRead (p : Port) (args : Text) (s : State) : Host.Outcome State Fault Refusal :=
  .next (s.takeLine p (cmdPwrRead p args))

end Sys2Proof.Machine
end

