-- ==== Sys2Proof/Machine/Timebase.lean ====
section
/-! DEFINITION. The Station Timebase (01, R1 to R7, R15 to R25): the local second and its end, growth of the uncertainty, pairing
a PPS with its message, locking, tracking and the discipline window, the setting of time, and TIME.SET and TIME.READ. -/

namespace Sys2Proof.Machine

open Sys2Proof

/-! ### The length of a second (R1, R2) -/

/-- The total rate (R2 step 1). -/
def Timebase.total (t : Timebase) : Int := clampInt (-Config.rateBound) Config.rateBound (t.trim + t.tc)

/-- The accumulator before the whole ticks are taken from it (R2 step 2). -/
def Timebase.accRaised (t : Timebase) : Int := t.acc + t.total

/-- n of R2 step 3. -/
def Timebase.nextN (t : Timebase) : Int := truncDiv t.accRaised 10000

/-- s of R2 step 4: one tick of slew, of the sign of P. -/
def Timebase.nextSlew (t : Timebase) : Int := if 0 < t.p then 1 else if t.p < 0 then -1 else 0

/-- R1, R2: a second begins at (seconds, ticks) and its length is fixed; an open window takes the slew (R20). The second ends
when the count from its reading 0 has reached `endAt`, after one tick at least. -/
def Timebase.fixSecond (t : Timebase) (seconds ticks : Nat) : Timebase :=
  { t with
    seconds := seconds
    raw := ticks
    acc := t.accRaised - t.nextN * 10000
    n := t.nextN
    slew := t.nextSlew
    p := t.p - t.nextSlew
    endAt := max (10000000 + t.nextN + t.nextSlew).toNat (ticks + 1)
    window := t.window.map fun w => { w with net := w.net + t.nextSlew } }

/-! ### The end of a second (R3, R11, R22, R158) -/

/-- R22: the deviation D of the OSC temperature from θ_ref. -/
def State.deviation (s : State) : Nat :=
  match s.thermal.chan.osc.value, s.tb.thetaRef with
  | some t, some r => if s.thermal.chan.osc.fault then 320 else (t - r).natAbs
  | _, _ => 320

/-- R22: U16 after the growth of one second. -/
def State.grown (s : State) : Nat :=
  match s.tb.clock with
  | .holdover =>
    satNat Config.u16Top (s.tb.u16 + (16 * s.paramN .timeAging + s.paramN .timeTempCoeff * s.deviation))
  | .unset | .locked => s.tb.u16

/-- R3: uptime rises by one at the end of every local second. -/
def uptimeAfter (u : Nat) : Nat := satNat (count40 - 1) (u + 1)

/-- R3, R22, R23: the end of a second, first part: uptime rises, U grows and the class is recomputed. -/
def State.closeSecond (s : State) : State :=
  ({ s with tb := { s.tb with uptime := uptimeAfter s.tb.uptime, u16 := s.grown } } : State).noteClock s.tb

/-- What falls due with the uptime, taken as its own row takes it. -/
def State.takeDue (s : State) : Due → State
  | .schedule => s.scheduleTimer
  | .holdOff => s.holdOffDue
  | .sessionLimit => s.sessionLimit
  | .settle => s.settleTimer
  | .forcedClose => s.forceClose
  | .transit => s.transitTimeout
  | .alerts => s.expireAll s.alerts.alerts
  | .acquisition => s.acquisitionTimer
  | .dwell h => s.dwellTimer h
  | .phase h => s.phaseTimer h
  | .leases => s.expireLeases leaseKeys

/-- R3, R171, R179: what falls due with the uptime and is taken before the measurement, in the order given. -/
def State.takeDues (s : State) : List Due → State
  | [] => s
  | d :: l => State.takeDues (s.takeDue d) l

/-- R11, R158: the end of a second, second part: what is taken first, the threshold test, then the measurement. The current is
signed (8.1). -/
def State.finishSecond (s : State) (e : Ending) : State :=
  ((s.takeDues e.first).thresholdSession).measure e.shown.v.toNat e.shown.i.toInt

/-- R1: the local second runs its length and ends; the seconds count rises and the ticks reading returns to 0. -/
def State.rollover (s : State) (e : Ending) : State :=
  let s := { s with tb := { s.tb with osc := s.tb.osc + (s.tb.endAt - s.tb.raw), raw := s.tb.endAt } }
  let s := { s with tb := s.tb.fixSecond ((s.tb.seconds + 1) % count40) 0 }
  (s.closeSecond.takeRate).finishSecond e

/-! ### Setting the time (R16, R17, R38) -/

/-- R16, R24: the step amount: the new time minus the time now. -/
def State.stepAmount (s : State) (seconds ticks : Nat) : Int :=
  clampStep (((seconds : Int) - (s.tb.seconds : Int)) * 10000000 + (ticks : Int) - (s.tb.ticks : Int))

/-- R17: the effects of a step beyond the clock and the front. -/
def State.stepEffects (s : State) (amount : Int) : State :=
  let s := s.reportStep amount
  let s := if Config.stepAlertTicks < (amount.natAbs : Int) then s.post .step else s
  { s with tb := { s.tb with window := none, discard := true } }

/-- R16, R24: the second in progress ends and a new one begins at (seconds, ticks), with P cleared first. A first setting, from
UNSET, brings no effect of a step. The second part of the end of the second is left to the caller. -/
def State.setTime (s : State) (seconds ticks : Nat) : State :=
  let step := decide (s.tb.clock ≠ .unset)
  let amount := s.stepAmount seconds ticks
  let s := s.closeSecond
  let s := { s with tb := ({ s.tb with p := 0 } : Timebase).fixSecond seconds ticks }
  let s := s.timeSetReport step
  if step then s.stepEffects amount else s

/-! ### Pairs (R5 to R7) -/

/-- R5: a time message line ends. -/
def State.timeMessage (s : State) (line : List Byte) (framing : Bool) : State :=
  match s.tb.session with
  | .idle | .powering => s
  | .seeking | .tracking =>
    match timeMessageOf line framing s.tb.osc with
    | some m => { s with tb := { s.tb with buffer := some m } }
    | none => s

/-- R6: the message in the buffer is valid for the PPS taken now. -/
def State.validMessage (s : State) : Option Message :=
  match s.tb.buffer with
  | none => none
  | some m =>
    if m.valid = true ∧ s.paramN .timeMinSats ≤ m.sats ∧ m.arrival + Config.pairMargin ≤ s.tb.osc then some m else none

/-- R6: the announced count follows the continuity reference. -/
def Timebase.follows (t : Timebase) (m : Message) : Bool :=
  match t.reference with
  | none => true
  | some r => decide (m.seconds = (r + 1) % count40)

/-- R6: the PPS taken now makes a good pair with this message. -/
def State.goodPair (s : State) : Option Message :=
  match s.validMessage with
  | some m => if s.tb.follows m then some m else none
  | none => none

/-- R6: the buffer and the continuity reference after the PPS is classified. -/
def State.afterPps (s : State) : State :=
  { s with tb := { s.tb with buffer := none, reference := s.validMessage.map fun m => m.seconds } }

/-- R7: the phase error. -/
def Timebase.phase (t : Timebase) : Int := if t.ticks < 5000000 then (t.ticks : Int) else (t.ticks : Int) - 10000000

/-- R7: the local second of the PPS. -/
def Timebase.ppsSecond (t : Timebase) : Nat := if t.ticks < 5000000 then t.seconds else (t.seconds + 1) % count40

/-- R7: the pair agrees in seconds. -/
def Timebase.agrees (t : Timebase) (m : Message) : Bool := decide (m.seconds = t.ppsSecond)

/-- R15, R18: the pair lies beyond the step limit or does not agree in seconds. -/
def State.outside (s : State) (m : Message) : Bool :=
  decide (s.paramN .timeStepLimit < s.tb.phase.natAbs) || !(s.tb.agrees m)

/-! ### Locking (R15) -/

/-- A window opened at a pair with phase error `e` (R15, R20). -/
def State.newWindow (s : State) (e : Int) : Window := ⟨e, 0, 0, s.paramN .timeWindow⟩

/-- R15: what the locking pair does in both cases. A session that locks does not go on as one that continues (log entry 48). -/
def State.lock (s : State) (e : Int) (set : Bool) : State :=
  ({ s with
      tb :=
        { s.tb with
          clock := .locked
          session := .tracking
          u16 := 16 * s.paramN .timeLockFloor
          thetaRef := s.thermal.chan.osc.value
          settleCount := 0
          outlierCount := 0
          missingCount := 0
          continuing := false
          window := some (s.newWindow e)
          discard := s.tb.discard || set } } : State).noteClock s.tb

/-- R15: the locking pair. -/
def State.lockingPair (s : State) (m : Message) (e : Ending) : State :=
  if s.tb.clock = .unset ∨ s.outside m = true then ((s.setTime m.seconds 0).lock 0 true).finishSecond e
  else ({ s with tb := { s.tb with p := s.tb.phase } } : State).lock s.tb.phase false

/-- R15: a pair in SEEKING. -/
def State.seekingPair (s : State) (e : Ending) : Option Message → State
  | none => { s with tb := { s.tb with goodCount := 0 } }
  | some m =>
    let s := { s with tb := { s.tb with goodCount := s.tb.goodCount + 1 } }
    if s.paramN .timeAcqPairs ≤ s.tb.goodCount then s.lockingPair m e else s

/-! ### Tracking (R18 to R21) -/

/-- R20: the correction of a window that closes at a pair with phase error `e`. -/
def Window.correction (w : Window) (e : Int) : Int :=
  clampInt (-Config.correctionBound) Config.correctionBound (truncDiv ((e - w.eStart + w.net) * 10000) (w.width : Int))

/-- R20: a good pair that is no outlier counts into the window, closes it, or opens one. -/
def State.windowPair (s : State) (e : Int) : State :=
  match s.tb.window with
  | none => { s with tb := { s.tb with window := some (s.newWindow e) } }
  | some w =>
    if w.width ≤ w.pairs + 1 then
      let trim :=
        if s.tb.discard then s.tb.trim
        else clampInt (-Config.rateBound) Config.rateBound (s.tb.trim + w.correction e)
      { s with tb := { s.tb with trim := trim, discard := false, window := some (s.newWindow e) } }
    else { s with tb := { s.tb with window := some { w with pairs := w.pairs + 1 } } }

/-- R21: at a good pair the session has reached its settle count, or continues from an earlier pair that did: it continues or
ends. -/
def State.settled (s : State) : State :=
  if s.tb.continuing = true ∨ s.paramN .timeSettlePairs ≤ s.tb.settleCount then
    if s.continues then { s with tb := { s.tb with continuing := true } } else s.endSession
  else s

/-- R18, R21: a good pair in TRACKING that is no outlier. -/
def State.trackedPair (s : State) (e : Int) : State :=
  let s := { s with tb := { s.tb with p := e, outlierCount := 0, settleCount := s.tb.settleCount + 1 } }
  (s.windowPair e).settled

/-- R18: an outlier; the third in a row sets the time at its pair. -/
def State.outlierPair (s : State) (m : Message) (e : Ending) : State :=
  let s := { s with tb := { s.tb with window := none, outlierCount := s.tb.outlierCount + 1 } }
  if 3 ≤ s.tb.outlierCount then
    let s := s.setTime m.seconds 0
    ({ s with tb := { s.tb with outlierCount := 0 } } : State).finishSecond e
  else s

/-- R19: a missing pair in TRACKING; the tenth returns the session to SEEKING. DESIGN CHOICE (log entry 48): a session that continued
past its settle count (R21) no longer does, and must settle anew after it locks again; R19 names the settle count alone. -/
def State.missingPair (s : State) : State :=
  let s := { s with tb := { s.tb with window := none, missingCount := s.tb.missingCount + 1 } }
  if 10 ≤ s.tb.missingCount then
    ({ s with tb := { s.tb with clock := .holdover, session := .seeking, goodCount := 0, settleCount := 0, continuing := false } } :
      State).noteClock s.tb
  else s

/-- R18, R19: a pair in TRACKING. -/
def State.trackingPair (s : State) (e : Ending) : Option Message → State
  | none => s.missingPair
  | some m =>
    let s := { s with tb := { s.tb with missingCount := 0 } }
    if s.outside m then s.outlierPair m e else s.trackedPair s.tb.phase

/-- R6: a PPS is taken. -/
def State.takePps (s : State) (e : Ending) : State :=
  match s.tb.session with
  | .idle | .powering => s
  | .seeking => s.afterPps.seekingPair e s.goodPair
  | .tracking => s.afterPps.trackingPair e s.goodPair

/-! ### The commands (R24, R25) -/

/-- R24: an uncertainty above 10,000,000 ns is limited to it. -/
def limitUncertainty (u : Nat) : Nat := min u 10000000

/-- R24: the setting itself, with the uncertainty already limited. -/
def State.setByCommand (s : State) (seconds ticks uncertainty : Nat) (e : Ending) : State :=
  let s := s.setTime seconds ticks
  let t :=
    { s with
      tb := { s.tb with u16 := 16 * uncertainty, thetaRef := s.thermal.chan.osc.value, clock := .holdover } }
  (t.noteClock s.tb).finishSecond e

/-- R24: TIME.SET. -/
def cmdTimeSet (e : Ending) (p : Port) (args : Text) (s : State) : State :=
  s.withNumbers p "TIME.SET" 3 args fun ns s =>
    match ns with
    | [sec, ticks, unc] =>
      if sec < 0 ∨ (count40 : Int) ≤ sec ∨ ticks < 0 ∨ 9999999 < ticks ∨ unc < 0 then
        s.respond p (reply .range "TIME.SET" [])
      else if s.tb.clock = .locked ∨ s.tb.session = .seeking ∨ s.tb.session = .tracking then
        s.respond p (reply .state "TIME.SET" [])
      else
        let u := limitUncertainty unc.toNat
        (s.setByCommand sec.toNat ticks.toNat u e).respond p
          (reply (if 10000000 < unc then .clamped else .ok) "TIME.SET" [field "uncertainty" (natText u)])
    | _ => s

/-- R25: the snapshot of the Timebase. -/
def State.timeFields (s : State) : List Text :=
  [field "time" (stampText s.stamp), field "clock" s.tb.clock.name.toList, field "session" s.tb.session.name.toList,
    field "u" (natText s.tb.u), field "trim" (intText s.tb.trim), field "tc" (intText s.tb.tc), field "p" (intText s.tb.p),
    field "uptime" (natText s.tb.uptime), field "failures" (natText s.tb.failures),
    field "schedule_due" (natText s.tb.scheduleDue), field "holdoff" (yesNo s.tb.holdOffDue.isSome)]

/-- R25: TIME.READ. -/
def cmdTimeRead (p : Port) (args : Text) (s : State) : State :=
  s.noArg p "TIME.READ" args fun s => s.respond p (reply .ok "TIME.READ" s.timeFields)

/-! ### Restart (R27) -/

/-- R27: the Timebase at a warm restart: a running session is aborted without counting as a failure. -/
def State.restartTimebase (s : State) : State :=
  let t :=
    { s with
      tb :=
        { s.tb with
          session := .idle
          continuing := false
          clock := if s.tb.clock = ClockState.locked then ClockState.holdover else s.tb.clock
          p := 0
          buffer := none
          reference := none
          window := none
          discard := false } }
  ((t.request .gnss false).noteClock s.tb).reloadSchedule

/-! ### The meanings of this family -/

/-- R1 to R3, R11, R22, R23, R39, R158. -/
def execRollover (shown : Monitor) (first : List Due) (s : State) : Host.Outcome State Fault Refusal :=
  .next (s.rollover ⟨shown, first⟩)

/-- R5. -/
def execTimeMessage (wait : Nat) (line : List Byte) (framing : Bool) (s : State) : Host.Outcome State Fault Refusal :=
  .next ((s.elapse wait).timeMessage line framing)

/-- R6. -/
def execPps (pulse : Pulse) (s : State) : Host.Outcome State Fault Refusal :=
  .next ((s.elapse pulse.wait).takePps pulse.ending)

def execTimeSet (p : Port) (args : TimeLine) (s : State) : Host.Outcome State Fault Refusal :=
  .next (s.takeLine p (cmdTimeSet args.ending p args.text))

def execTimeRead (p : Port) (args : Text) (s : State) : Host.Outcome State Fault Refusal :=
  .next (s.takeLine p (cmdTimeRead p args))

end Sys2Proof.Machine
end

