-- ==== Sys2Proof/Machine/Settings.lean ====
section
/-! DEFINITION. The Settings Store (10, R203 to R210): limits and dependent clamps, SET, GET, SAVE, IDENT, the load at cold
start, and the change of a port's speed (R186). -/

namespace Sys2Proof

/-! ### Limits (R204) -/

/-- The value of a rising list nearest to `v`; on a tie the lower. -/
def nearest (v : Int) : List Int → Int
  | [] => v
  | [x] => x
  | x :: y :: l => if (v - x).natAbs ≤ (v - nearest v (y :: l)).natAbs then x else nearest v (y :: l)

/-- R204: a value given for a parameter, limited to the parameter's own range. -/
def ParamKind.limit (k : ParamKind) (v : Int) : Int :=
  match k with
  | .range lo hi => clampInt lo hi v
  | .dcShift => if v ≤ 0 then 0 else clampInt 8 16 v
  | .rate => nearest v [20, 40, 50, 100, 200]
  | .baud => nearest v [9600, 19200, 38400, 57600, 115200, 230400]

/-- R204: the limit of a parameter. -/
def Param.limit (p : Param) (v : Int) : Int := p.row.kind.limit v

/-- The low end of a parameter's range. -/
def Param.low (p : Param) : Int :=
  match p.row.kind with
  | .range lo _ => lo
  | .dcShift => 0
  | .rate => 20
  | .baud => 9600

/-- The high end of a parameter's range. -/
def Param.high (p : Param) : Int :=
  match p.row.kind with
  | .range _ hi => hi
  | .dcShift => 16
  | .rate => 200
  | .baud => 230400

end Sys2Proof

namespace Sys2Proof.Machine

open Sys2Proof

/-! ### Dependent clamps (R205) -/

/-- A relation of R205: the value of `upper` is at least that of `lower` plus `gap`. -/
structure Relation where
  upper : Param
  lower : Param
  gap : Int
  deriving DecidableEq, Repr

/-- The relations of R205; the energy thresholds give two. -/
def relations : List Relation :=
  [⟨.trigLtaShift, .trigStaShift, 3⟩, ⟨.trigOn, .trigOff, 1⟩, ⟨.thmHot, .thmCool, 2⟩, ⟨.alrUrgent, .alrNotable, 0⟩,
    ⟨.pwrConserve, .pwrCritical, 5⟩, ⟨.pwrCritical, .pwrDormant, 5⟩]

/-- A table meets a relation. -/
def Relation.holds (r : Relation) (t : Table) : Bool := decide (t.get r.lower + r.gap ≤ t.get r.upper)

/-- R205: the table after `p` was written, when that breaks the relation: the partner is moved, and the written value limited
when the partner's range does not reach far enough. -/
def Relation.fix (r : Relation) (t : Table) (p : Param) : Option (Table × Param) :=
  if r.holds t then none
  else if p = r.upper then
    let want := t.get p - r.gap
    if r.lower.low ≤ want then some (t.put r.lower want, r.lower)
    else some ((t.put r.lower r.lower.low).put p (r.lower.low + r.gap), r.lower)
  else if p = r.lower then
    let want := t.get p + r.gap
    if want ≤ r.upper.high then some (t.put r.upper want, r.upper)
    else some ((t.put r.upper r.upper.high).put p (r.upper.high - r.gap), r.upper)
  else none

/-- R205: the relations given are judged for the parameter written; a partner moved is judged in turn by `inner`. The second
result names the partners moved, in the order they were moved. -/
def restoreWith (inner : Table → Param → Table × List Param) : List Relation → Table → Param → Table × List Param
  | [], t, _ => (t, [])
  | r :: l, t, p =>
    match r.fix t p with
    | none => restoreWith inner l t p
    | some (u, q) =>
      let v := inner u q
      let w := restoreWith inner l v.1 p
      (w.1, q :: v.2 ++ w.2)

/-- R205: the relations are restored after a parameter was written, to a depth. -/
def restoreDepth : Nat → Table → Param → Table × List Param
  | 0, t, _ => (t, [])
  | n + 1, t, p => restoreWith (restoreDepth n) relations t p

/-- R205: the relations are restored after a parameter was written; the chain of the energy thresholds moves two partners. -/
def restore (t : Table) (p : Param) : Table × List Param := restoreDepth 3 t p

/-- R204, R205: a value given for a parameter is written into a table. -/
def Table.write (t : Table) (p : Param) (v : Int) : Table × List Param := restore (t.put p (p.limit v)) p

/-! ### The stored copy (R208, R209) -/

/-- R209: the stored copy is valid. -/
def Settings.valid (t : Settings) : Bool := t.marker && decide (t.sum = Config.sumCheck t.stored)

/-- R209: each value of a copy, limited to its own range. -/
def Table.limited (t : Table) : Table := Param.all.map fun p => p.limit (t.get p)

/-- R209: the relations are restored, taking the parameters in the order given. -/
def Table.restored (t : Table) : List Param → Table
  | [] => t
  | p :: l => Table.restored (restore t p).1 l

/-- R209: the working table loaded from a valid copy. -/
def Table.load (t : Table) : Table := Table.restored t.limited Param.all

/-- R208: the end of a write. -/
def Settings.writeEnd (t : Settings) : Settings :=
  match t.saving with
  | some new => { t with stored := new, sum := Config.sumCheck new, marker := true, saving := none }
  | none => t

/-! ### Port speeds (R186) -/

/-- The parameter of a port's speed (R185). -/
def baudParam : Port → Param
  | .a => .portABaud
  | .b => .portBBaud

/-- R186: the speed of the working table comes into force: the line buffer is discarded, and skipping is set when part of a line
had been received. -/
def PortRec.takeSpeed (r : PortRec) (speed : Nat) : PortRec :=
  if r.speed = speed then r
  else { r.clearBuffer with speed := speed, skipping := r.skipping || r.partLine }

/-- R186: the speed of a port comes into force while the port is READY with no output. -/
def State.applySpeed (s : State) (p : Port) : State :=
  match (s.port.get p).state with
  | .ready => { s with port := s.port.set p ((s.port.get p).takeSpeed (s.paramN (baudParam p))) }
  | .responding | .clearing => s

/-! ### The commands (R204 to R208, R210) -/

/-- R53: SET changes a detector constant. -/
def constantsDiffer (t u : Table) : Bool :=
  decide (t.get .trigDcShift ≠ u.get .trigDcShift) || decide (t.get .trigStaShift ≠ u.get .trigStaShift)
    || decide (t.get .trigLtaShift ≠ u.get .trigLtaShift)

/-- R182: SET has changed pwr.capacity; the measurement takes the change. -/
def State.capacityWritten (s : State) (t : Table) : State :=
  { s with
    energy :=
      { s.energy with
        capacityChanged := s.energy.capacityChanged || decide (t.get .pwrCapacity ≠ s.param .pwrCapacity) } }

/-- R4, R53, R57, R58, R180, R182: what a SET that turned the working table from `t` into the present one brings at once. -/
def State.settingEffects (s : State) (t : Table) (p : Param) : State :=
  let s := s.capacityWritten t
  let s := if (Param.timeParams.drop 12).contains p then s.recomputeTc else s
  let s := if constantsDiffer t s.settings.working then s.constantsChanged else s
  let s := if p = .trigEnable then s.enableWritten else s
  if p = .pwrChargeMin ∨ p = .pwrChargeMax then s.chargeEnable else s

/-- The field of a parameter in a SET response (R213). -/
def paramField (t : Table) (p : Param) : Text := field p.row.name (intText (t.get p))

/-- R204 to R206: a SET that names a parameter and gives a number. A partner that already stood at the end of its range has not
been moved. DESIGN CHOICE (log entry 43): SETTINGS_CHANGED is raised after the causes that the SET's own effects raise; R206
gives no order. -/
def State.setValue (s : State) (port : Port) (p : Param) (v : Int) : State :=
  let before := s.settings.working
  let w := before.write p v
  let s := { s with settings := { s.settings with working := w.1 } }
  let s := (s.settingEffects before p).raise port.other .settingsChanged
  let moved := w.2.filter fun q => decide (w.1.get q ≠ before.get q)
  let status := if w.1.get p = v ∧ moved = [] then Status.ok else .clamped
  let s := s.respond port (reply status "SET" (paramField w.1 p :: moved.map (paramField w.1)))
  (s.applySpeed .a).applySpeed .b

/-- R190, R204: SET. A line of the wrong form is SYNTAX, whatever the name. -/
def cmdSet (p : Port) (args : Text) (s : State) : State :=
  match tokens args with
  | [name, value] =>
    match numberToken value with
    | none => s.respond p (reply .badSyntax "SET" [])
    | some v =>
      match paramWord name with
      | none => s.respond p (bareReply .unknown)
      | some q => s.setValue p q v
  | _ => s.respond p (reply .badSyntax "SET" [])

/-- R207: the stored value that GET shows. -/
def Settings.storedValue (t : Settings) (p : Param) : Option Int :=
  if t.valid && t.saving.isNone then some (t.stored.get p) else none

/-- R207: GET. -/
def cmdGet (p : Port) (args : Text) (s : State) : State :=
  match tokens args with
  | [name] =>
    match paramWord name with
    | none => s.respond p (bareReply .unknown)
    | some q =>
      s.respond p
        (reply .ok "GET" [paramField s.settings.working q, field "stored" (optText intText (s.settings.storedValue q))])
  | _ => s.respond p (reply .badSyntax "GET" [])

/-- R208: SAVE. -/
def cmdSave (p : Port) (args : Text) (s : State) : State :=
  s.noArg p "SAVE" args fun s =>
    match s.settings.saving with
    | some _ => s.respond p (reply .busy "SAVE" [])
    | none =>
      ({ s with settings := { s.settings with saving := some s.settings.working, marker := false } } : State).respond p
        (reply .ok "SAVE" [])

/-- R210: a value of the working table differs from the stored copy. -/
def Settings.differs (t : Settings) : Bool := !t.valid || t.saving.isSome || decide (t.working ≠ t.stored)

/-- R210: the identity fields. -/
def Settings.identFields (t : Settings) : List Text :=
  [field "part" "JC3610".toList, field "family" "Jecran".toList, field "revision" (natText 2),
    field "store" (if t.saving.isSome then "SAVING".toList else "IDLE".toList),
    field "copy" (if t.valid then "VALID".toList else "NOT_VALID".toList),
    field "differs" (if t.differs then "DIFFERS".toList else "SAME".toList)]

/-- R210: IDENT. -/
def cmdIdent (p : Port) (args : Text) (s : State) : State :=
  s.noArg p "IDENT" args fun s => s.respond p (reply .ok "IDENT" s.settings.identFields)

/-! ### The meanings of this family -/

def execSetParam (p : Port) (args : Text) (s : State) : Host.Outcome State Fault Refusal :=
  .next (s.takeLine p (cmdSet p args))

def execGetParam (p : Port) (args : Text) (s : State) : Host.Outcome State Fault Refusal :=
  .next (s.takeLine p (cmdGet p args))

def execSave (p : Port) (args : Text) (s : State) : Host.Outcome State Fault Refusal :=
  .next (s.takeLine p (cmdSave p args))

/-- R208: the end of a write, while one is in progress. -/
def execSaveWriteEnd (s : State) : Host.Outcome State Fault Refusal :=
  .next { s with settings := s.settings.writeEnd }

def execIdent (p : Port) (args : Text) (s : State) : Host.Outcome State Fault Refusal :=
  .next (s.takeLine p (cmdIdent p args))

end Sys2Proof.Machine
end

