-- ==== Sys2Proof/Machine/Restart.lean ====
section
/-! DEFINITION. Restarts (R27, R42, R71, R93, R112, R113, R139, R157, R184, R200, R201, R211) and the cold start (R26, R41, R70,
R92, R111, R138, R156, R183, R202, R209), block by block, with RESTART, the warm restart it asks for, and the RESET input. -/

namespace Sys2Proof.Machine

open Sys2Proof

/-! ### Warm restart -/

/-- R200, R201: a port at a warm restart, its RESTARTED not yet raised. What was presented goes back to the pending set. -/
def PortRec.restarted (r : PortRec) : PortRec :=
  { r.clearBuffer with
    skipping := r.skipping || r.partLine
    state := .ready
    owed := 0
    line := []
    payload := []
    restartWaits := false
    presented := none }

/-- R200, R201: a port at a warm restart; RESTARTED is judged by its routing set, and the highest pending cause is presented. -/
def State.restartPort (s : State) (p : Port) : State :=
  { s with port := s.port.set p (((s.port.get p).restarted.take (s.routing p) .restarted).present) }

/-- R113: the capture jobs are aborted, in creation order. -/
def State.restartStore (s : State) : State := s.abortJobs (s.store.jobs.map fun j => j.number)

/-- R211: a warm restart reaches every block. A burst in progress, of the job in table entry `entry`, stops after `written` of its
sets (R112), and an outstanding set completes (R42), before the blocks restart; the ports come last, so that what other blocks raise is pending when each chooses
its presented cause (R201). -/
def State.warmRestart (s : State) (entry written : Nat) : State :=
  let s := ((s.stopBurst entry written).restartStrobe).dropReads.restartTrigger.restartStore
  let s := s.restartTimebase.restartLeases.restartAlerts.restartThermal.restartFront
  (s.restartPort .a).restartPort .b

/-- R211, R112: a warm restart is made; which job's burst is in progress, and how much of it has been written, are free values
(log entry 45). -/
def State.makeRestart (s : State) : State :=
  { s.warmRestart (Config.stoppedJob s.draws) (Config.stoppedBurst s.draws) with draws := s.draws + 1 }

/-- R211: RESTART is answered OK, and the restart waits for the end of that response. -/
def cmdRestart (p : Port) (args : Text) (s : State) : State :=
  s.noArg p "RESTART" args fun s =>
    let s := s.respond p (reply .ok "RESTART" [])
    { s with port := s.port.set p { s.port.get p with restartWaits := true } }

/-- R211: the RESET input is seen asserted or deasserted; each assertion makes one warm restart. -/
def State.resetInput (s : State) (asserted : Bool) : State :=
  let t := { s with pins := { s.pins with reset := asserted } }
  if asserted && !s.pins.reset then t.makeRestart else t

/-! ### Cold start -/

/-- 10.3: a copy whose writing was cut off holds a mixture of old and new values; which are which is a free value. -/
def tornCopy (old new : Table) (k : Nat) : Table :=
  Param.all.map fun p => if Config.tornWrite k p.index then new.get p else old.get p

/-- R208, R209: what the loss of supply leaves of the Settings Store; its validity marker is clear during a write. -/
def Settings.lost (t : Settings) (k : Nat) : Settings :=
  match t.saving with
  | some new => { t with stored := tornCopy t.stored new k, marker := false, saving := none }
  | none => t

/-- R209: the load: the stored copy when it is valid, otherwise the default of every parameter. -/
def Settings.loaded (t : Settings) : Settings :=
  { t with working := if t.valid then t.stored.load else Table.default }

/-- R202, R209: a port at cold start, with STORE_DEFAULTED raised during the load when the copy is not valid. -/
def coldPort (speed mask : Nat) (defaulted : Bool) : PortRec :=
  let r := PortRec.cold speed
  let r := if defaulted then r.take mask .storeDefaulted else r
  (r.take mask .restarted).present

/-- The cold start of every block from a loaded working table. The input pins and the queue of waiting commands are outside
the part and stay. -/
def State.coldFrom (s : State) (t : Settings) : State :=
  let n := fun p : Param => (t.working.get p).toNat
  { s with
    tb := Timebase.cold
    front := Front.cold (n .smpRate)
    trig := Trigger.cold (decide (n .trigEnable = 0))
    cat := Catalogue.cold
    store := Store.cold
    alerts := AlertQueue.cold
    thermal := Thermal.cold
    energy := Energy.cold (n .pwrCapacity * 3600000) (n .pwrInitialSoc)
    port := ⟨coldPort (n .portABaud) (n .attA) (!t.valid), coldPort (n .portBBaud) (n .attB) (!t.valid)⟩
    settings := t
    restartsDue := 0 }

/-- R209: the part's own supply returns after a loss. -/
def State.coldStart (s : State) : State :=
  { s.coldFrom (s.settings.lost s.draws).loaded with draws := s.draws + 1 }

/-! ### The meanings of this family -/

def execRestart (p : Port) (args : Text) (s : State) : Host.Outcome State Fault Refusal :=
  .next (s.takeLine p (cmdRestart p args))

/-- R211: the warm restart that a sent RESTART asked for is made, one for each. -/
def State.dueRestart (s : State) : State :=
  if s.restartsDue = 0 then s else { s.makeRestart with restartsDue := s.restartsDue - 1 }

/-- R211. -/
def execWarmRestart (s : State) : Host.Outcome State Fault Refusal := .next s.dueRestart

/-- R211. -/
def execResetInput (asserted : Bool) (s : State) : Host.Outcome State Fault Refusal := .next (s.resetInput asserted)

/-- R209. -/
def execColdStart (s : State) : Host.Outcome State Fault Refusal := .next s.coldStart

end Sys2Proof.Machine
end

