-- ==== Sys2Proof/Machine/Ports.lean ====
section
/-! DEFINITION. The Master Ports (09, R185 to R202): the reading of a completed line and its dispatch to a command, the status
digest, discarded lines and their BUSY lines, the end of a response, ATT.READ, and the characters of a line. -/

namespace Sys2Proof.Machine

open Sys2Proof

/-! ### Lines without a command (R188, R189, R195) -/

/-- R188: a line that carries a mark is answered SYNTAX and has no other effect. -/
def answerMarked (p : Port) (s : State) : State := s.respond p (bareReply .badSyntax)

/-- R189: a command word that matches no name is answered UNKNOWN. -/
def answerUnknown (p : Port) (s : State) : State := s.respond p (bareReply .unknown)

/-- R195, 11.2.1: the status digest. -/
def State.digestFields (s : State) : List Text :=
  [field "level"
      (match s.energy.level with
        | some l => l.name.toList
        | none => "UNDETERMINED".toList),
    field "clock" s.tb.clock.name.toList, field "class" s.tb.cls.name.toList,
    field "station" s.trig.station.name.toList, field "alerts" (natText s.alerts.alerts.length),
    field "transit"
      (match s.alerts.inTransit.bind fun x => x.transit with
        | some p => p.name.toList
        | none => "NONE".toList),
    field "free" (natText s.store.free.length), field "records" (natText s.cat.records.length)]

/-- R195: the empty line is answered with the status digest. -/
def answerDigest (p : Port) (s : State) : State := s.respond p (reply .ok "DIGEST" s.digestFields)

/-! ### Attention (R197, R198) -/

/-- R198: a read takes the presented cause out of the pending set, and the highest-priority cause left is presented. -/
def PortRec.readCause (r : PortRec) (c : Attn) : PortRec :=
  let rest := r.pending.filter fun x => decide (x ≠ c)
  { r with pending := rest, presented := highest rest }

/-- R198: ATT.READ. -/
def cmdAttRead (p : Port) (args : Text) (s : State) : State :=
  s.noArg p "ATT.READ" args fun s =>
    match (s.port.get p).presented with
    | some c =>
      let r := (s.port.get p).readCause c
      ({ s with port := s.port.set p r } : State).respond p
        (reply .ok "ATT.READ" [field "cause" c.name.toList, field "pending" (natText r.pending.length)])
    | none => s.respond p (reply .ok "ATT.READ" [field "cause" "NONE".toList, field "pending" (natText 0)])

/-! ### Reading a command (R189, R190) -/

/-- The command table of 9.5, with the action of each command on the text after its word; `e` is what the end of a second meets,
for TIME.SET. -/
def commandTable (e : Ending) : List (String × (Port → Text → State → State)) :=
  [("ATT.READ", cmdAttRead), ("TIME.SET", cmdTimeSet e), ("TIME.SESSION", cmdTimeSession), ("TIME.READ", cmdTimeRead),
    ("SMP.READ", cmdSmpRead), ("TRIG.READ", cmdTrigRead), ("EVT.LIST", cmdEvtList), ("EVT.READ", cmdEvtRead),
    ("EVT.RELEASE", cmdEvtRelease), ("WAV.CAPTURE", cmdWavCapture), ("WAV.READ", cmdWavRead), ("WAV.STATUS", cmdWavStatus),
    ("ALR.FETCH", cmdAlrFetch), ("ALR.RESULT", cmdAlrResult), ("ALR.POST", cmdAlrPost), ("ALR.LIST", cmdAlrList),
    ("THM.ACQUIRE", cmdThmAcquire), ("THM.READ", cmdThmRead), ("THM.CLEAR", cmdThmClear), ("PWR.LEASE", cmdPwrLease),
    ("PWR.RELEASE", cmdPwrRelease), ("PWR.CLEAR", cmdPwrClear), ("PWR.READ", cmdPwrRead), ("SET", cmdSet), ("GET", cmdGet),
    ("SAVE", cmdSave), ("IDENT", cmdIdent), ("RESTART", cmdRestart)]

/-- R189: an unmarked line taken in READY is read: the digest for the empty line, UNKNOWN for an unknown command word, and
otherwise the command with the text after its word. -/
def readLine (e : Ending) (p : Port) (line : Text) (s : State) : State :=
  match skipSpaces line with
  | [] => answerDigest p s
  | c :: t =>
    match (commandTable e).find? fun x => decide (x.1.toList = wordOf (c :: t)) with
    | some x => x.2 p (restOf (c :: t)) s
    | none => answerUnknown p s

/-! ### Characters (R187, R188) -/

/-- CR and LF (R187). -/
def terminator (c : Byte) : Bool := decide (c.toNat = 13) || decide (c.toNat = 10)

/-- R188: a character that is no terminator, received with `framing`, sets BAD when it cannot stand in a line. -/
def badCharacter (c : Byte) (framing : Bool) : Bool := framing || !printable (byteChar c)

/-- R187, R188: a character that is no terminator is appended to the buffer or sets a mark. DESIGN CHOICE (log entry 50): a printable
character after the one that set BAD is still appended, while the buffer holds fewer than 120 (R187). -/
def PortRec.collect (r : PortRec) (c : Byte) (framing : Bool) : PortRec :=
  let full := decide (Config.lineLength ≤ r.buffer.length)
  let bad := badCharacter c framing
  { r with
    bad := r.bad || bad
    overlong := r.overlong || full
    buffer := if bad || full then r.buffer else r.buffer ++ [byteChar c]
    afterCr := false }

/-- R187: a terminator that is not the LF of a CR LF: it clears skipping, or it completes the line, which the port takes, or
discards and owes BUSY for (R192). A framing error in it makes the line BAD (R188). -/
def State.endLine (s : State) (p : Port) (c : Byte) (framing : Bool) (e : Ending) : State :=
  let r := s.port.get p
  let cr := decide (c.toNat = 13)
  if r.skipping then { s with port := s.port.set p { r with skipping := false, afterCr := cr } }
  else
    let s := { s with port := s.port.set p { r.clearBuffer with afterCr := cr } }
    match r.state with
    | .ready => if r.bad || r.overlong || framing then answerMarked p s else readLine e p r.buffer s
    | .responding | .clearing => { s with port := s.port.set p (s.port.get p).oweBusy }

/-- R187, R188: a character is received. -/
def State.character (s : State) (p : Port) (c : Byte) (framing : Bool) (e : Ending) : State :=
  let r := s.port.get p
  if terminator c then
    if decide (c.toNat = 10) && r.afterCr then { s with port := s.port.set p { r with afterCr := false } }
    else s.endLine p c framing e
  else if r.skipping then { s with port := s.port.set p { r with afterCr := false } }
  else { s with port := s.port.set p (r.collect c framing) }

/-! ### Discarded lines and the end of output (R191 to R193) -/

/-- R192: a line is discarded; the event comes about only in RESPONDING or CLEARING. -/
def State.discardLine (s : State) (p : Port) : State :=
  match (s.port.get p).state with
  | .ready => s
  | .responding | .clearing => s.takeLine p fun s => s

/-- R192: the BUSY line owed for a discarded line. -/
def busyLine : Text := bareReply .busy

/-- R191: the output of a command, or of a BUSY line, has been sent: a BUSY line follows while one is owed. -/
def PortRec.advance (r : PortRec) : PortRec :=
  if 0 < r.owed then { r with state := .clearing, line := busyLine, payload := [] }
  else { r with state := .ready, line := [], payload := [] }

/-- R191, R211: the last character of a response or payload has been sent. While sets of a read are still to fetch its payload
is not at its end (R109); at that end the read ends and its pin is released, so that the pin lasts as long as the port is
occupied with the read (log entry 21). -/
def State.responseSent (s : State) (p : Port) : State :=
  let r := s.port.get p
  if r.state = .responding ∧ (s.store.request p).isNone = true then
    let t := s.endRead p
    let t := { t with port := t.port.set p { r.advance with restartWaits := false } }
    ({ t with restartsDue := t.restartsDue + r.restartWaits.toNat } : State).applySpeed p
  else s

/-- R192: an owed BUSY line has been sent. -/
def State.busyLineSent (s : State) (p : Port) : State :=
  let r := s.port.get p
  if r.state = .clearing then
    ({ s with port := s.port.set p ({ r with owed := r.owed - 1 } : PortRec).advance } : State).applySpeed p
  else s

/-! ### The meanings of this family -/

/-- R188, R191. -/
def execMarkedLine (p : Port) (s : State) : Host.Outcome State Fault Refusal := .next (s.takeLine p (answerMarked p))

/-- R189, R191. -/
def execUnknownCommandWord (p : Port) (s : State) : Host.Outcome State Fault Refusal :=
  .next (s.takeLine p (answerUnknown p))

/-- R195. -/
def execStatusDigest (p : Port) (s : State) : Host.Outcome State Fault Refusal := .next (s.takeLine p (answerDigest p))

/-- R192. -/
def execLineDiscarded (p : Port) (s : State) : Host.Outcome State Fault Refusal := .next (s.discardLine p)

/-- R191. -/
def execResponseSent (p : Port) (s : State) : Host.Outcome State Fault Refusal := .next (s.responseSent p)

/-- R192. -/
def execBusyLineSent (p : Port) (s : State) : Host.Outcome State Fault Refusal := .next (s.busyLineSent p)

def execAttRead (p : Port) (args : Text) (s : State) : Host.Outcome State Fault Refusal :=
  .next (s.takeLine p (cmdAttRead p args))

/-- R185, R187, R188. -/
def execCharacterReceived (p : Port) (c : Byte) (r : Reception) (s : State) : Host.Outcome State Fault Refusal :=
  .next (s.character p c r.framing r.ending)

end Sys2Proof.Machine
end

