-- ==== Sys2Proof/Machine/Dispatch.lean ====
section
/-! DEFINITION. The dispatch: one arm for each command, each one direct call of its meaning. -/

namespace Sys2Proof.Machine

open Sys2Proof

def exec (i : Instr) (s : State) : Host.Outcome State Fault Refusal :=
  match i with
  | .rollover shown first => Sys2Proof.Machine.execRollover shown first s
  | .timeMessage wait line framing => Sys2Proof.Machine.execTimeMessage wait line framing s
  | .pps pulse => Sys2Proof.Machine.execPps pulse s
  | .scheduleTimer => Sys2Proof.Machine.execScheduleTimer s
  | .holdOffDue => Sys2Proof.Machine.execHoldOffDue s
  | .sessionLimit => Sys2Proof.Machine.execSessionLimit s
  | .timeSet p args => Sys2Proof.Machine.execTimeSet p args s
  | .timeSession p args => Sys2Proof.Machine.execTimeSession p args s
  | .timeRead p args => Sys2Proof.Machine.execTimeRead p args s
  | .settleTimer => Sys2Proof.Machine.execSettleTimer s
  | .strobe busy => Sys2Proof.Machine.execStrobe busy s
  | .digitizerFrame bytes framing busy => Sys2Proof.Machine.execDigitizerFrame bytes framing busy s
  | .smpRead p args => Sys2Proof.Machine.execSmpRead p args s
  | .forcedClose => Sys2Proof.Machine.execForcedClose s
  | .trigRead p args => Sys2Proof.Machine.execTrigRead p args s
  | .evtList p args => Sys2Proof.Machine.execEvtList p args s
  | .evtRead p args => Sys2Proof.Machine.execEvtRead p args s
  | .evtRelease p args => Sys2Proof.Machine.execEvtRelease p args s
  | .wavCapture p args => Sys2Proof.Machine.execWavCapture p args s
  | .captureBurst => Sys2Proof.Machine.execCaptureBurst s
  | .ringWrite => Sys2Proof.Machine.execRingWrite s
  | .wavRead p args => Sys2Proof.Machine.execWavRead p args s
  | .readBurst reqA reqB => Sys2Proof.Machine.execReadBurst reqA reqB s
  | .wavStatus p args => Sys2Proof.Machine.execWavStatus p args s
  | .alrFetch p args => Sys2Proof.Machine.execAlrFetch p args s
  | .alrResult p args => Sys2Proof.Machine.execAlrResult p args s
  | .transitTimerDue => Sys2Proof.Machine.execTransitTimerDue s
  | .alertExpiry => Sys2Proof.Machine.execAlertExpiry s
  | .alrPost p args => Sys2Proof.Machine.execAlrPost p args s
  | .alrList p args => Sys2Proof.Machine.execAlrList p args s
  | .acquisitionTimer => Sys2Proof.Machine.execAcquisitionTimer s
  | .acquisitionComplete vault osc batt sensor => Sys2Proof.Machine.execAcquisitionComplete vault osc batt sensor s
  | .thmAcquire p args => Sys2Proof.Machine.execThmAcquire p args s
  | .thmClear p args => Sys2Proof.Machine.execThmClear p args s
  | .thmRead p args => Sys2Proof.Machine.execThmRead p args s
  | .dwellTimer h => Sys2Proof.Machine.execDwellTimer h s
  | .phaseTimer h => Sys2Proof.Machine.execPhaseTimer h s
  | .sequencerGrant => Sys2Proof.Machine.execSequencerGrant s
  | .powerGoodPresent d => Sys2Proof.Machine.execPowerGoodPresent d s
  | .powerGoodLost d => Sys2Proof.Machine.execPowerGoodLost d s
  | .riseTimer d => Sys2Proof.Machine.execRiseTimer d s
  | .leaseExpiry => Sys2Proof.Machine.execLeaseExpiry s
  | .chargeSourceChange present => Sys2Proof.Machine.execChargeSourceChange present s
  | .pwrLease p args => Sys2Proof.Machine.execPwrLease p args s
  | .pwrRelease p args => Sys2Proof.Machine.execPwrRelease p args s
  | .pwrClear p args => Sys2Proof.Machine.execPwrClear p args s
  | .pwrRead p args => Sys2Proof.Machine.execPwrRead p args s
  | .markedLine p => Sys2Proof.Machine.execMarkedLine p s
  | .unknownCommandWord p => Sys2Proof.Machine.execUnknownCommandWord p s
  | .statusDigest p => Sys2Proof.Machine.execStatusDigest p s
  | .lineDiscarded p => Sys2Proof.Machine.execLineDiscarded p s
  | .responseSent p => Sys2Proof.Machine.execResponseSent p s
  | .busyLineSent p => Sys2Proof.Machine.execBusyLineSent p s
  | .attRead p args => Sys2Proof.Machine.execAttRead p args s
  | .setParam p args => Sys2Proof.Machine.execSetParam p args s
  | .getParam p args => Sys2Proof.Machine.execGetParam p args s
  | .save p args => Sys2Proof.Machine.execSave p args s
  | .saveWriteEnd => Sys2Proof.Machine.execSaveWriteEnd s
  | .ident p args => Sys2Proof.Machine.execIdent p args s
  | .restart p args => Sys2Proof.Machine.execRestart p args s
  | .warmRestart => Sys2Proof.Machine.execWarmRestart s
  | .resetInput asserted => Sys2Proof.Machine.execResetInput asserted s
  | .coldStart => Sys2Proof.Machine.execColdStart s
  | .characterReceived p c r => Sys2Proof.Machine.execCharacterReceived p c r s

end Sys2Proof.Machine
end

