-- ==== Sys2Proof/Safety.lean ====
section
/-! DEFINITION. What holds of the part at every moment: the invariants the rules state across blocks. A safe run is one on which
they all hold; every step keeps them, from every state that meets them. Then the words the statements are written in: a line
that is taken and its answer, a request of a domain, a session that begins, a good pair. -/

namespace Sys2Proof

/-- The port on which a command that is a whole line was completed. -/
def Instr.linePort : Instr → Option Port
  | .timeSet p _ | .timeSession p _ | .timeRead p _ | .smpRead p _ | .trigRead p _ | .evtList p _ | .evtRead p _
  | .evtRelease p _ | .wavCapture p _ | .wavRead p _ | .wavStatus p _ | .alrFetch p _ | .alrResult p _ | .alrPost p _
  | .alrList p _ | .thmAcquire p _ | .thmClear p _ | .thmRead p _ | .pwrLease p _ | .pwrRelease p _ | .pwrClear p _
  | .pwrRead p _ | .attRead p _ | .setParam p _ | .getParam p _ | .save p _ | .ident p _ | .restart p _
  | .markedLine p | .unknownCommandWord p | .statusDigest p | .lineDiscarded p => some p
  | .rollover .. | .timeMessage .. | .pps .. | .scheduleTimer | .holdOffDue | .sessionLimit | .settleTimer | .strobe ..
  | .digitizerFrame .. | .forcedClose | .captureBurst | .ringWrite | .readBurst .. | .transitTimerDue | .alertExpiry
  | .acquisitionTimer | .acquisitionComplete .. | .dwellTimer .. | .phaseTimer .. | .sequencerGrant
  | .powerGoodPresent .. | .powerGoodLost .. | .riseTimer .. | .leaseExpiry | .chargeSourceChange .. | .responseSent ..
  | .busyLineSent .. | .saveWriteEnd | .warmRestart .. | .resetInput .. | .coldStart | .characterReceived .. => none

end Sys2Proof

namespace Sys2Proof.Machine

open Sys2Proof

/-- R8: the clock is LOCKED exactly while the session is TRACKING. -/
def ClockInv (s : State) : Prop := s.tb.clock = .locked ↔ s.tb.session = .tracking

/-- R57, 3.1: the station is SUSPENDED exactly while a suspension cause holds, and an event context is present exactly while the
station is ACTIVE or POST. -/
structure TriggerInv (s : State) : Prop where
  suspended : s.trig.station = .suspended ↔ s.trig.causes.any = true
  context : s.trig.event.isSome = true ↔ s.trig.station = .active ∨ s.trig.station = .post

/-- R187, R191, R192, R196, R197: a port's line buffer, owed count, pending set and presented cause. -/
structure PortInv (r : PortRec) : Prop where
  /-- R187: the buffer holds at most 120 characters -/
  buffer : r.buffer.length ≤ Config.lineLength
  /-- R192: the owed count stays within 0..16, and a READY port owes nothing -/
  owed : r.owed ≤ Config.owedTop
  ready : r.state = .ready → r.owed = 0
  /-- R196: the pending set holds each cause at most once -/
  nodup : r.pending.Nodup
  /-- R197: the presented cause is a member of the pending set, and a cause is presented while the set is not empty -/
  presented : ∀ c, r.presented = some c → c ∈ r.pending
  silent : r.presented = none → r.pending = []

/-- R165: each domain is requested exactly while one of its requesters wants it. -/
structure RequestInv (s : State) : Prop where
  aux : s.energy.domain.aux.requested = (s.energy.domain.gnss.requested || s.energy.domain.modem.requested)
  sensor : s.energy.domain.sensor.requested = true ↔ ∃ l, s.energy.level = some l ∧ l ≠ .dormant
  gnss : s.energy.domain.gnss.requested = true ↔ s.tb.session ≠ .idle
  modem : s.energy.domain.modem.requested = s.energy.leased .modem
  storage : s.energy.domain.storage.requested = s.energy.leased .storage
  heatBatt : s.energy.domain.heatBatt.requested = s.thermal.heater.batt.state.requests
  heatInst : s.energy.domain.heatInst.requested = s.thermal.heater.inst.state.requests

/-- The load switch of a domain is on exactly while it is RISING or ON (8.3). -/
def DomState.switched : DomState → Bool
  | .rising | .on => true
  | .off | .waiting | .fault => false

/-- R165, R166, R167, R168: what keeps the load switches in order. -/
structure SwitchInv (s : State) : Prop where
  /-- R167: at most one domain is RISING -/
  slot : ∀ d e, (s.dom d).state = .rising → (s.dom e).state = .rising → d = e
  /-- R168: GNSS and MODEM are RISING or ON only with AUX ON -/
  gnss : s.energy.domain.gnss.state.switched = true → s.energy.domain.aux.state = .on
  modem : s.energy.domain.modem.state.switched = true → s.energy.domain.aux.state = .on
  /-- R166: a domain that is not requested is OFF or in FAULT -/
  dropped : ∀ d, (s.dom d).requested = false → (s.dom d).state = .off ∨ (s.dom d).state = .fault
  /-- R165: the heater domains are held OFF in DORMANT -/
  held : ∀ d, s.heldOff d = true → (s.dom d).state = .off ∨ (s.dom d).state = .fault

/-- R74, R75, R116, R117, R33, R95: the catalogue holds at most 32 records, the queue at most 16 alerts and the ring at most 16,384
sets; no two records and no two alerts share an id, no two jobs share one of the four table entries, and at most one alert is
IN_TRANSIT. -/
structure CountInv (s : State) : Prop where
  records : s.cat.records.length ≤ Config.catalogueSlots
  alerts : s.alerts.alerts.length ≤ Config.queuePlaces
  ring : s.front.ring.length ≤ Config.ringLength
  recordIds : (s.cat.records.map fun r => r.id).Nodup
  alertIds : (s.alerts.alerts.map fun x => x.id).Nodup
  jobEntries : (s.store.jobs.map fun j => j.number).Nodup
  entryRange : ∀ j ∈ s.store.jobs, j.number < Config.jobEntries
  transit : (s.alerts.alerts.filter fun x => x.transit.isSome).length ≤ 1

/-- R117, R118: the queue stands in its order; the places in the order of joining are distinct and all taken before the next one;
and at most one alert stands for each cause. -/
structure QueueInv (s : State) : Prop where
  order : s.alerts.alerts.Pairwise fun x y => x.before y = true
  joined : (s.alerts.alerts.map fun x => x.joined).Nodup
  taken : ∀ x ∈ s.alerts.alerts, x.joined < s.alerts.nextJoin
  causes : (s.alerts.alerts.filterMap fun x => x.cause).Nodup

/-- R94: the numbers of the blocks held: by the free-block list, by the records, and by the jobs as current blocks. -/
def State.heldBlocks (s : State) : List Nat :=
  s.store.free ++ (s.cat.records.flatMap fun r => r.blocks.map fun b => b.number)
    ++ s.store.jobs.filterMap fun j => j.current.map fun b => b.number

/-- R91, R94, R95, R96: each of the 96 blocks has one holder, and a RELEASED record holds none; each job writes for a record of its
own, which is RUNNING and not RELEASED, and a RUNNING record has a job. -/
structure BlockInv (s : State) : Prop where
  blocks : s.heldBlocks.Perm (List.range Config.blockCount)
  released : ∀ r ∈ s.cat.records, r.state = .released → r.blocks = []
  owner : ∀ j ∈ s.store.jobs, ∃ r ∈ s.cat.records, r.id = j.record ∧ r.capture = .running ∧ r.state ≠ .released
  oneJob : (s.store.jobs.map fun j => j.record).Nodup
  running : ∀ r ∈ s.cat.records, r.capture = .running → ∃ j ∈ s.store.jobs, j.record = r.id

/-- R72, R80, R83: an OPEN record is the record of the event in progress. -/
def OpenInv (s : State) : Prop :=
  ∀ r ∈ s.cat.records, r.state = .opened → ∃ c, s.trig.event = some c ∧ c.record = some r.id

/-- Section 10, R204, R205: the working table holds a value within its range for each parameter, and meets the relations. -/
structure TableInv (t : Table) : Prop where
  length : t.length = Param.all.length
  ranges : ∀ p : Param, p.limit (t.get p) = t.get p
  related : ∀ r ∈ relations, r.holds t = true

/-- Section 10, R208: the working table, a snapshot being written, and a stored copy whose marker is set, are such tables; the
marker is clear during a write. -/
structure SettingsInv (t : Settings) : Prop where
  working : TableInv t.working
  saving : ∀ u, t.saving = some u → TableInv u
  stored : t.marker = true → TableInv t.stored
  marker : t.saving ≠ none → t.marker = false

/-- The state is one a run may stand in. -/
structure SafeState (s : State) : Prop where
  clock : ClockInv s
  trigger : TriggerInv s
  portA : PortInv s.port.a
  portB : PortInv s.port.b
  requests : RequestInv s
  switches : SwitchInv s
  counts : CountInv s
  queue : QueueInv s
  blocks : BlockInv s
  opened : OpenInv s
  settings : SettingsInv s.settings

/-! ### Lines and answers (R187, R191, R192) -/

/-- A line completed on the port is taken as a command: the port is READY, and is not skipping. -/
structure State.Takes (s : State) (p : Port) : Prop where
  ready : (s.port.get p).state = .ready
  heard : (s.port.get p).skipping = false

/-- The port after a line has been completed: its buffer is empty and its marks are clear (R187). -/
def PortRec.emptied (r : PortRec) : PortRec := { r with buffer := [], bad := false, overlong := false, afterCr := false }

/-- A line has been completed on the port and answered: the response stands in the output and the port is RESPONDING. -/
def State.answered (s : State) (p : Port) (line : Text) : State :=
  { s with port := s.port.set p { (s.port.get p).emptied with state := .responding, line := line, payload := [] } }

/-! ### Requests and sessions (R13, R165, R166) -/

/-- A domain that is no heater domain, after it is requested: a request of a domain requested before changes nothing, and one of
an OFF domain sends it to WAITING. -/
def DomRec.asked (d : DomRec) : DomRec :=
  if d.requested then d else { d with requested := true, state := if d.state = .off then .waiting else d.state }

/-- A domain after it is dropped: OFF, unless it is in FAULT; a drop of a domain not requested changes nothing. -/
def DomRec.dropped (d : DomRec) : DomRec :=
  if d.requested then
    { d with
      requested := false
      state := if d.state = .fault then .fault else .off
      riseDue := if d.state = .off ∨ d.state = .fault then d.riseDue else none }
  else d

/-- R13: a session has begun: the Timebase in POWERING, with GNSS and so AUX requested. -/
def State.sessionBegun (s : State) : State :=
  { s with
    tb :=
      { s.tb with
        scheduleDue := s.tb.uptime + s.paramN .timeSessionInterval * 3600
        session := .powering
        sessionStart := s.tb.uptime
        buffer := none
        reference := none
        goodCount := 0 }
    energy :=
      { s.energy with
        domain := { s.energy.domain with gnss := s.energy.domain.gnss.asked, aux := s.energy.domain.aux.asked } } }

/-- The domains after the Timebase has released GNSS: AUX is dropped with it unless MODEM is requested. -/
def State.gnssReleased (s : State) : PerDomain DomRec :=
  { s.energy.domain with
    gnss := s.energy.domain.gnss.dropped
    aux :=
      if s.energy.domain.modem.requested then s.energy.domain.aux.asked else s.energy.domain.aux.dropped }

/-! ### Causes and faults (R170, R196) -/

/-- R196: a cause has been raised toward a port: where the port's routing set holds it, it is pending. -/
def State.Raised (t : State) (p : Port) (c : Attn) : Prop := routed (t.routing p) c = true → c ∈ (t.port.get p).pending

/-- R118, R119: an alert of the cause stands in the queue after its posting, or the posting made a drop. -/
def State.Posted (s t : State) (c : Cause) : Prop :=
  (∃ x ∈ t.alerts.alerts, x.cause = some c) ∨ s.alerts.dropped < t.alerts.dropped ∨ t.alerts.dropped = 4294967295

/-- R16, R17, R82: what a setting of the time by `amount` ticks, `none` for a first setting, leaves of the records and of the STEP
alert: the OPEN record is STEPPED, with the amount in its step total, and a step above one second posts STEP. `first` is what the
same command takes of what falls due: an expiry or a timeout may take the alert out again. -/
structure State.StepTold (s t : State) (amount : Option Int) (first : List Due) : Prop where
  records :
    (t.cat.records.map fun x => (x.id, x.flags.stepped, x.stepTotal)) =
      s.cat.records.map fun x =>
        match amount with
        | some a =>
          if x.state = .opened then
            (x.id, true, some (clampInt (-2147483647) 2147483647 (x.stepTotal.getD 0 + a)))
          else (x.id, x.flags.stepped, x.stepTotal)
        | none => (x.id, x.flags.stepped, x.stepTotal)
  posted : ∀ a, amount = some a → 10000000 < a.natAbs → .alerts ∉ first → .transit ∉ first → s.Posted t .step
  quiet : (∀ a, amount = some a → a.natAbs ≤ 10000000) → (∀ x ∈ s.alerts.alerts, x.cause ≠ some .step) →
    ∀ x ∈ t.alerts.alerts, x.cause ≠ some .step

/-- R8, R23: what a command says of the clock and the class, `s` being the state before it and `t` the state after: the class is the one
the clock and the uncertainty give; a change of either raises TIME_CHANGED toward both ports; and a class that worsens from MILLI or
better to COARSE or POOR posts DEGRADED. `first` is what the same command takes of what falls due: an expiry or a timeout may take
the alert out again. -/
structure State.ClockTold (s t : State) (first : List Due) : Prop where
  cls : t.tb.cls =
    match t.tb.clock with
    | .unset => .none
    | .locked => .lock
    | .holdover =>
      if t.tb.u16 / 16 ≤ 10000 then .fine
      else if t.tb.u16 / 16 ≤ 1000000 then .milli
      else if t.tb.u16 / 16 ≤ 100000000 then .coarse
      else .poor
  changed : s.tb.clock ≠ t.tb.clock ∨ s.tb.cls ≠ t.tb.cls → ∀ p, t.Raised p .timeChanged
  degraded : s.tb.cls ∈ [.lock, .fine, .milli] → t.tb.cls ∈ [.coarse, .poor] → .alerts ∉ first → .transit ∉ first →
    s.Posted t .degraded

/-- R170 (log entry 28): a fault of this domain fails the session: GNSS's own, and that of AUX while GNSS is requested and is WAITING,
RISING or ON. -/
def State.FailsSession (s : State) (d : Domain) : Prop :=
  d = .gnss
    ∨ (d = .aux ∧ s.energy.domain.gnss.requested = true ∧ s.energy.domain.gnss.state ∈ [.waiting, .rising, .on])

/-- R170: what a domain's entry to FAULT leaves, `s` being the state before it and `t` the state after. -/
structure State.Faulted (s t : State) (d : Domain) : Prop where
  fault : (t.dom d).state = .fault
  told : ∀ p, t.Raised p .domainFault
  /-- the alert is held in the queue, or was dropped by R119 -/
  posted : s.Posted t (.domainFault d)
  /-- MODEM, AUX and STORAGE: every lease concerned ends with reason FAULT -/
  modem : d = .modem ∨ d = .aux → ∀ p, s.energy.leaseOf p .modem ≠ none →
    t.energy.leaseOf p .modem = none ∧ t.energy.lastEnd.get p = some ⟨.modem, .fault, t.tb.uptime⟩ ∧ t.Raised p .leaseEnded
  storage : d = .storage → ∀ p, s.energy.leaseOf p .storage ≠ none →
    t.energy.leaseOf p .storage = none ∧ t.energy.lastEnd.get p = some ⟨.storage, .fault, t.tb.uptime⟩ ∧ t.Raised p .leaseEnded
  /-- AUX: GNSS and MODEM are turned OFF -/
  aux : d = .aux → (t.dom .gnss).state ∈ [.off, .fault] ∧ (t.dom .modem).state ∈ [.off, .fault]
  /-- GNSS: the session fails -/
  gnss : d = .gnss → t.tb.session = .idle
  /-- R14, R169: a session that fails, by GNSS or by AUX -/
  failed : s.FailsSession d → s.tb.session ≠ .idle →
    t.tb.session = .idle ∧ t.tb.continuing = false ∧ t.tb.p = 0 ∧ t.tb.buffer = none ∧ t.tb.reference = none
    ∧ t.tb.window = none ∧ t.tb.clock = (if s.tb.clock = .locked then .holdover else s.tb.clock)
    ∧ t.tb.holdOffDue = some (s.tb.uptime + 3600)
    ∧ t.tb.failures = (if 3 ≤ s.tb.failures + 1 then 0 else s.tb.failures + 1) ∧ (t.dom .gnss).requested = false
  /-- R8, R14, R23: TIME_CHANGED and DEGRADED -/
  clock : s.ClockTold t []
  /-- R14: what the session keeps where it does not fail -/
  session : ¬ s.FailsSession d → t.tb.session = s.tb.session ∧ t.tb.clock = s.tb.clock ∧ t.tb.failures = s.tb.failures
  /-- SENSOR: the front is STOPPED -/
  sensor : d = .sensor → t.front.state = .stopped
  /-- a heater domain: the controller's faulted latch is set and it is FAULTED -/
  heatBatt : d = .heatBatt → (t.heater .batt).faulted = true ∧ (t.heater .batt).state = .faulted
  heatInst : d = .heatInst → (t.heater .inst).faulted = true ∧ (t.heater .inst).state = .faulted
  leases : ∀ p k, s.energy.leaseOf p k = none → t.energy.leaseOf p k = none
  /-- what a fault leaves alone -/
  level : t.energy.level = s.energy.level ∧ t.energy.charge = s.energy.charge ∧ t.energy.soc = s.energy.soc
  chan : t.thermal.chan = s.thermal.chan
  settings : t.settings = s.settings

/-- R166, R169: what a domain's entry to ON leaves, `s` being the state before it and `t` the state after. -/
structure State.EnteredOn (s t : State) (d : Domain) : Prop where
  energy :
    t.energy = { s.energy with domain := s.energy.domain.set d { s.dom d with state := .on, riseDue := none } }
  /-- GNSS: a POWERING session becomes SEEKING -/
  timebase :
    t.tb = if d = .gnss ∧ s.tb.session = .powering then { s.tb with session := .seeking } else s.tb
  /-- SENSOR: a STOPPED front enters SETTLING, or RUNNING where smp.settle is 0 -/
  settling : d = .sensor → s.front.state = .stopped → 0 < s.paramN .smpSettle →
    t.front =
      { s.front with state := .settling, linkSeq := 0, settleDue := some (s.tb.uptime + s.paramN .smpSettle) }
  running : d = .sensor → s.front.state = .stopped → s.paramN .smpSettle = 0 →
    t.front.state = .running ∧ t.front.linkSeq = 0 ∧ t.front.missingRun = 0
  /-- a heater domain: the blanking window opens or is extended -/
  blanking : (d = .heatBatt ∨ d = .heatInst) → 0 < s.paramN .trigBlank →
    t.trig.blanking = max s.trig.blanking (s.paramN .trigBlank * s.trig.lastRate.getD (s.paramN .smpRate))
  front : d ≠ .sensor → t.front = s.front
  trig : d ≠ .sensor → d ≠ .heatBatt → d ≠ .heatInst → t.trig = s.trig
  thermal : t.thermal = s.thermal
  settings : t.settings = s.settings

/-! ### Events (R48, R59 to R64) -/

/-- R44, R48: the peak of a component at a set, from the component as the set finds it; 0 where no chain runs. -/
def State.peakAt (s : State) (r : SetRec) (a : Axis) : Nat :=
  if r.missing || r.blanked then 0
  else
    let x := r.sample.get a * 256
    (if s.paramN .trigDcShift = 0 then x
      else if (s.trig.comp.get a).firstPending then 0
      else x - (s.trig.comp.get a).dc).natAbs / 256

/-- R47, R59: the ratio of a component at a set, from the component as the set leaves it; 0 where no chain runs. -/
def State.ratioAt (t : State) (r : SetRec) (a : Axis) : Nat :=
  if r.missing || r.blanked then 0 else (t.trig.comp.get a).q.getD 0

/-- A component is TRIGGERED. -/
def State.triggeredAt (t : State) (a : Axis) : Bool := decide ((t.trig.comp.get a).state = .triggered)

/-- R61: the context of the event in progress after a set, `s` being the state before the set and `t` the state after. -/
def EventCtx.followed (c : EventCtx) (s t : State) (r : SetRec) : EventCtx :=
  { c with
    clipped := c.clipped || r.clipped.z || r.clipped.n || r.clipped.e
    peak := ⟨max c.peak.z (s.peakAt r .z), max c.peak.n (s.peakAt r .n), max c.peak.e (s.peakAt r .e)⟩
    ratio := ⟨max c.ratio.z (t.ratioAt r .z), max c.ratio.n (t.ratioAt r .n), max c.ratio.e (t.ratioAt r .e)⟩
    triggered :=
      if r.missing || r.blanked then c.triggered
      else ⟨c.triggered.z || t.triggeredAt .z, c.triggered.n || t.triggeredAt .n, c.triggered.e || t.triggeredAt .e⟩ }

/-- R105: the write of a set laps no job. -/
def State.Unlapped (s : State) (r : SetRec) : Prop :=
  s.front.ring.length < 16384 ∨ ∀ j ∈ s.store.jobs, j.next ≠ idxSub r.index 16384 ∨ j.done = true

/-- R121: a severity qualifies for a new alert. -/
def State.Qualifies (s : State) (v : Severity) : Prop := v ≠ .routine ∨ s.paramN .alrRoutine = 1

/-- A new QUAKE alert stands in the queue (R116, R120, R123, R124). -/
structure State.NewQuake (s t : State) (event : Option Nat) (v : Severity) (q : Summary) (y : Alert) : Prop where
  held : y ∈ t.alerts.alerts
  content : y.cause = none ∧ y.event = event ∧ y.severity = v ∧ y.quake = some q ∧ y.pending = none ∧ y.text = []
  fresh : y.transit = none ∧ y.attempts = 0 ∧ y.repeats = 0 ∧ y.created = s.stamp ∧ y.createdUptime = s.tb.uptime
    ∧ y.expiry = s.tb.uptime + s.ttl v
  linked : ∀ id, event = some id → ∀ x ∈ t.cat.records, x.id = id → x.kind = .event → x.link = .queued y.id
  waiting : (∀ z ∈ s.alerts.alerts, z.transit = none) → ∀ p, t.Raised p .alertWaiting

/-- R59, R60, R77, R78, R97, R98, R123: what the opening of an event at set `r` leaves, `c` being its context, `s` the state before
the set and `t` the state after. -/
structure State.Opened (s t : State) (r : SetRec) (c : EventCtx) : Prop where
  index : c.openIndex = r.index ∧ c.openUptime = s.tb.uptime
  figures : ∀ a, c.peak.get a = s.peakAt r a ∧ c.ratio.get a = t.ratioAt r a ∧ c.triggered.get a = t.triggeredAt a
    ∧ c.voting.get a = (t.triggeredAt a && decide (0 < s.weights.get a))
  marks : c.clipped = (r.clipped.z || r.clipped.n || r.clipped.e) ∧ c.blanked = false
  /-- R59: the onset is that of a voting component -/
  onset : (∃ a m, c.voting.get a = true ∧ (t.trig.comp.get a).onset = some m) →
    ∃ a, c.voting.get a = true ∧ (t.trig.comp.get a).onset = some c.onset
  /-- R33, R59: and no voting component's onset lies below it, the onsets all standing within half the indices above some index -/
  earliest : ∀ base : Nat,
    (∀ a m, c.voting.get a = true → (t.trig.comp.get a).onset = some m → idxSub m.index base ≤ 549755813887) →
    ∀ a m, c.voting.get a = true → (t.trig.comp.get a).onset = some m →
      idxSub c.onset.index base ≤ idxSub m.index base
  told : ∀ p, t.Raised p .eventOpened
  /-- R77: no record where no room can be made -/
  refused : c.record = none ↔ 32 ≤ s.cat.records.length ∧ ∀ x ∈ s.cat.records, x.state ≠ .released
  full : c.record = none → s.Posted t .catalogueFull
  /-- R78, R97, R98: the record, and its job: one is refused where the four entries hold EVENT jobs -/
  record : ∀ id, c.record = some id → ∃ x ∈ t.cat.records, x.id = id ∧ x.kind = .event ∧ x.state = .opened
    ∧ x.openIndex = some r.index ∧ x.onsetIndex = c.onset.index ∧ x.onsetStamp = some c.onset.stamp ∧ x.peak = some c.peak
    ∧ x.severity = some (s.quakeSeverity c.peak)
    ∧ (CountInv s → s.Unlapped r →
        let start := idxSub c.onset.index (s.paramN .trigPreroll)
        let short := idxLt start t.front.oldestIdx
        let source := if short then t.front.oldestIdx else start
        (s.store.jobs.length < 4 ∨ (∃ j ∈ s.store.jobs, j.kind = .manual) →
          x.capture = .running ∧ x.flags.prerollShort = short
          ∧ ∃ j ∈ t.store.jobs, j.kind = .event ∧ j.record = id ∧ j.start = source ∧ j.next = source ∧ j.stop = none
            ∧ j.posted = 0)
        ∧ (4 ≤ s.store.jobs.length → (∀ j ∈ s.store.jobs, j.kind = .event) →
          x.capture = .none ∧ x.flags.noCapture = true
          ∧ (t.store.jobs.map fun j => j.record) = s.store.jobs.map fun j => j.record))
  /-- R98: with no empty entry the latest MANUAL job is cancelled -/
  cancelled : c.record ≠ none → CountInv s → BlockInv s → s.Unlapped r → ∀ before after m,
    s.store.jobs = before ++ m :: after → 4 ≤ s.store.jobs.length → m.kind = .manual → (∀ k ∈ after, k.kind = .event) →
      (∀ k ∈ t.store.jobs, k.record ≠ m.record) ∧ (∃ x ∈ t.cat.records, x.id = m.record ∧ x.capture = .cancelled)
      ∧ ∀ p, t.Raised p .eventReady
  /-- R123, in a queue with room -/
  early : s.alerts.alerts.length + 3 ≤ 16 → s.paramN .alrEarly = 1 → s.Qualifies (s.quakeSeverity c.peak) →
    ∃ y, t.alerts.track = some ⟨c.record, .alert y.id⟩
      ∧ s.NewQuake t c.record (s.quakeSeverity c.peak)
          ⟨c.onset.stamp, c.peak, c.ratio, none, c.clipped, false, false, false, false, 0⟩ y
  late : ¬ (s.paramN .alrEarly = 1 ∧ s.Qualifies (s.quakeSeverity c.peak)) → t.alerts.track = some ⟨c.record, .none⟩

/-- R63, R83, R99, R124: what the close of an event at index `stop` leaves, `c` being its context with its final figures, `s` the state
before the command and `t` the state after. -/
structure State.Closed (s t : State) (c : EventCtx) (stop : Nat) (forced interrupted : Bool) : Prop where
  /-- R83: the record, CLOSED, with the final figures and the flags -/
  record : ∀ id, c.record = some id → ∀ x ∈ t.cat.records, x.id = id →
    x.state = .closed ∧ x.closeIndex = some stop ∧ x.duration = some (idxSub stop c.onset.index + 1)
    ∧ x.peak = some c.peak ∧ x.ratio = some c.ratio ∧ x.triggered = some c.triggered ∧ x.voting = some c.voting
    ∧ x.severity = some (s.quakeSeverity c.peak)
    ∧ ∃ y ∈ s.cat.records, y.id = id ∧ x.flags.clipped = (y.flags.clipped || c.clipped)
      ∧ x.flags.blankedDuring = (y.flags.blankedDuring || c.blanked)
      ∧ x.flags.forced = (y.flags.forced || forced) ∧ x.flags.interrupted = (y.flags.interrupted || interrupted)
  /-- R99: the end index is handed to the record's job, and a job that had copied every set to it has ended -/
  job : CountInv s → BlockInv s → ∀ id, c.record = some id → ∀ j ∈ t.store.jobs, j.record = id →
    j.stop = some stop ∧ idxLt stop j.next = false
  track : t.alerts.track = none
  /-- R124, in a queue with room -/
  alert : CountInv s → s.alerts.alerts.length + 3 ≤ 16 → ∀ k, s.alerts.track = some k →
    let v := s.quakeSeverity c.peak
    let final := fun n : Nat =>
      (⟨c.onset.stamp, c.peak, c.ratio, some (idxSub stop c.onset.index + 1), c.clipped, c.blanked, forced, interrupted, true,
        n⟩ : Summary)
    (k.state = .none ∨ k.state = .lost → s.Qualifies v → ∃ y, s.NewQuake t k.event v (final 0) y)
    ∧ (∀ n, k.state = .delivered n → ∃ y, s.NewQuake t k.event v (final (n + 1)) y)
    ∧ ∀ y ∈ s.alerts.alerts, k.state = .alert y.id → y.cause = none →
      (y.transit = none →
        { y with quake := some (final ((y.quake.map fun q => q.revision).getD 0)), severity := v, pending := none }
          ∈ t.alerts.alerts)
      ∧ (y.transit ≠ none → { y with pending := some ⟨final 0, v⟩ } ∈ t.alerts.alerts)

/-- R63, R64: what the end of the post-roll of an event at set `r` leaves, `c` being its context as the set found it, `s` the state
before the set and `t` the state after. -/
structure State.Ended (s t : State) (r : SetRec) (c : EventCtx) : Prop where
  station : t.trig.station = .quiet ∧ t.trig.event = none ∧ t.trig.countdown = none
  closed : s.Closed t (c.followed s t r) r.index false false

/-! ### Heaters (R147 to R149, R152) -/

/-- R147 to R149, R152: heater `h` has been evaluated, `r` being its record before the evaluation and `t` the state after. The target
is the first that applies of FAULTED, LOCKOUT, INHIBITED, a fallback phase on a channel in FAULT, HEATER_OFF with no value, and the
thermostat's; a target that would change the request is held while the dwell timer runs, unless it is one of the first three; a
change of the request loads the dwell timer and reaches the domain; and a fallback phase entered loads the phase timer. -/
structure State.Evaluated (t : State) (h : Heater) (r : HeaterRec) : Prop where
  state :
    let chan := t.thermal.chan.get (match h with | .batt => .batt | .inst => .sensor)
    let cold := t.thermal.source && !t.thermal.chan.batt.fault
      && match t.thermal.chan.batt.value with
        | some x => decide (x < t.param .pwrChargeMin * 16)
        | none => false
    let offset := if t.thermal.level = .conserve then t.param .thmConserveOffset * 16 else 0
    let on := t.param (match h with | .batt => .thmBhLow | .inst => .thmIhLow) * 16 - offset
    let off := t.param (match h with | .batt => .thmBhHigh | .inst => .thmIhHigh) * 16 - offset
    let target : HeaterState :=
      if r.faulted then .faulted
      else if r.lockout then .lockout
      else if t.thermal.level = .dormant ∨ (t.thermal.level = .critical ∧ (h = .inst ∨ cold = false)) then .inhibited
      else if chan.fault then
        match r.state with
        | .heating => .fallbackOn
        | .fallbackOn => if r.phase = .fallen then .fallbackOff else .fallbackOn
        | .fallbackOff => if r.phase = .fallen then .fallbackOn else .fallbackOff
        | .heaterOff | .lockout | .inhibited | .faulted => .fallbackOff
      else
        match chan.value with
        | none => .heaterOff
        | some x =>
          if r.state.requests then (if off ≤ x then .heaterOff else .heating) else if x < on then .heating else .heaterOff
    (t.heater h).state =
      if target ∈ [.faulted, .lockout, .inhibited] ∨ target.requests = r.state.requests ∨ r.dwell = none then target
      else if target = .fallbackOn ∨ target = .fallbackOff then r.state
      else if r.state.requests then .heating
      else .heaterOff
  dwell : (t.heater h).dwell =
    if (t.heater h).state.requests = r.state.requests then r.dwell else some (t.tb.uptime + t.paramN .thmDwell)
  phase : (t.heater h).phase =
    if (t.heater h).state = .fallbackOn ∨ (t.heater h).state = .fallbackOff then
      if (t.heater h).state = r.state then r.phase
      else .due (t.tb.uptime + if (t.heater h).state = .fallbackOn then 225 else 675)
    else .off
  domain : (t.heater h).state.requests ≠ r.state.requests →
    (t.dom (match h with | .batt => .heatBatt | .inst => .heatInst)).requested = (t.heater h).state.requests

/-! ### Output and restart (R186, R191, R200, R201) -/

/-- R186, R191: a port whose output has been sent goes on: CLEARING with a BUSY line while one is owed, otherwise READY, where the
speed of the working table comes into force; with a new speed the buffer is discarded and the rest of a part line skipped. -/
def PortRec.sent (r : PortRec) (speed : Nat) : PortRec :=
  if 0 < r.owed then { r with state := .clearing, line := bareReply .busy, payload := [] }
  else if r.speed = speed then { r with state := .ready, line := [], payload := [] }
  else
    { r with
      state := .ready, line := [], payload := [], speed := speed, buffer := [], bad := false, overlong := false,
      skipping := r.skipping || !r.buffer.isEmpty || r.bad || r.overlong }

/-- R102, R112: the sets that a burst stopped after `written` of them has written into the current block of this job. The burst is that
of the COPYING job in table entry `entry`, or, where no job is COPYING there, of the one served next. -/
def State.burstPart (s : State) (entry written : Nat) (j : Job) : List SetRec :=
  match s.front.newest with
  | some w =>
    if j.state = .copying
        ∧ (j.number = entry ∨ ((∀ k ∈ s.store.jobs, k.number = entry → k.state ≠ .copying) ∧ s.store.served = some j)) then
      ((s.front.ring.take (idxSub w j.next + 1)).reverse).take (min written (j.burst w - 1))
    else []
  | none => []

/-- R93, R113: what the abort of a job of `s` leaves: its record with the outcome, its part block posted or an empty one returned. -/
structure State.Aborted (s t : State) (entry written : Nat) (j : Job) : Prop where
  told : ∀ p, t.Raised p .eventReady
  record : ∃ x ∈ t.cat.records, x.id = j.record
    ∧ x.capture = (if j.kind = .event then .truncated else .cancelled)
    ∧ (j.kind = .event → x.flags.truncated = true)
    ∧ ∀ b, j.current = some b →
        if b.sets ++ s.burstPart entry written j = [] then b.number ∈ t.store.free
        else (⟨b.number, b.sets ++ s.burstPart entry written j⟩ : Block) ∈ x.blocks

/-- R27, R42, R71, R93, R112, R113, R139, R157, R184, R200, R201: what a warm restart leaves, `s` being the state before it and `t`
the state after; a burst in progress, of the job in table entry `entry`, is stopped after `written` of its sets. -/
structure State.WarmRestarted (s t : State) (entry written : Nat) : Prop where
  /-- R27 -/
  timebase :
    t.tb =
      { s.tb with
        session := .idle
        continuing := false
        clock := if s.tb.clock = .locked then .holdover else s.tb.clock
        p := 0
        buffer := none
        reference := none
        window := none
        discard := false
        scheduleDue := s.tb.uptime + s.paramN .timeSessionInterval * 3600 }
  gnss : (t.dom .gnss).requested = false
  /-- R8, R23, R27 -/
  changed : s.tb.clock ≠ t.tb.clock ∨ s.tb.cls ≠ t.tb.cls → ∀ p, t.Raised p .timeChanged
  degraded : s.tb.cls ∈ [.lock, .fine, .milli] → t.tb.cls ∈ [.coarse, .poor] →
    (∀ x ∈ s.alerts.alerts, x.transit = none) → s.Posted t .degraded
  /-- R42 -/
  stopped : (s.dom .sensor).state ≠ .on → t.front.state = .stopped ∧ t.front.settleDue = none
  settling : (s.dom .sensor).state = .on → 0 < s.paramN .smpSettle →
    t.front.state = .settling ∧ t.front.settleDue = some (s.tb.uptime + s.paramN .smpSettle)
  front : t.front.outstanding = none ∧ t.front.waiting = none ∧ t.front.missingRun = 0
    ∧ t.front.sampleIndex = s.front.sampleIndex ∧ t.front.linkSeq = s.front.linkSeq ∧ t.front.rate = s.front.rate
  /-- R71 -/
  station : (s.dom .sensor).state ≠ .on ∨ 0 < s.paramN .smpSettle → t.trig.station = .suspended
  trig : t.trig.event = none ∧ t.trig.countdown = none
    ∧ ∀ a, (t.trig.comp.get a).state = .priming ∧ (t.trig.comp.get a).priming = 0 ∧ (t.trig.comp.get a).firstPending = true
  /-- R71, unless a heater switched by the restart opens a window (R54) -/
  blanking : ((s.dom .heatBatt).state = .on → (t.dom .heatBatt).state = .on) →
    ((s.dom .heatInst).state = .on → (t.dom .heatInst).state = .on) → t.trig.blanking = 0
  /-- R93, R112, R113 -/
  store : t.store.jobs = [] ∧ t.store.reads = ⟨none, none⟩
  pins : ∀ r ∈ t.cat.records, r.pins = 0
  /-- R93: no capture is RUNNING and no record is OPEN -/
  running : BlockInv s → ∀ r ∈ t.cat.records, r.capture ≠ .running
  opened : TriggerInv s → OpenInv s → ∀ r ∈ t.cat.records, r.state ≠ .opened
  /-- R93, R112, R113, with no set still to complete (R42) -/
  aborted : BlockInv s → s.front.outstanding = none → s.front.waiting = none →
    ∀ j ∈ s.store.jobs, s.Aborted t entry written j
  free : s.front.outstanding = none → s.front.waiting = none → (∀ j ∈ s.store.jobs, j.state ≠ .waitingBlock) →
    s.store.free <+: t.store.free
  served : t.store.lastServed = s.store.lastServed
  /-- R66, R93 -/
  closed : s.front.outstanding = none → s.front.waiting = none → ∀ c id, s.trig.event = some c → c.record = some id →
    ∀ x ∈ t.cat.records, x.id = id →
      x.state = .closed ∧ x.flags.interrupted = true ∧ x.closeIndex = some (s.front.newest.getD c.openIndex)
  /-- R139 -/
  alerts : ∀ x ∈ t.alerts.alerts, x.transit = none
  /-- R157 -/
  thermal : t.thermal.chan = s.thermal.chan ∧ t.thermal.completes = some (s.tb.osc + 5000000)
    ∧ t.thermal.timerDue = s.tb.uptime + s.paramN .thmInterval ∧ t.thermal.armed = s.thermal.armed
    ∧ ∀ h, (t.heater h).lockout = (s.heater h).lockout ∧ (t.heater h).faulted = (s.heater h).faulted
      ∧ (t.heater h).hot = (s.heater h).hot ∧ (t.heater h).coolSeen = (s.heater h).coolSeen
  /-- R184 -/
  leases : ∀ p d, t.energy.leaseOf p d = none
  ends : ∀ p d, s.energy.leaseOf p d ≠ none → ∃ e, s.energy.leaseOf p e ≠ none
    ∧ t.energy.lastEnd.get p = some ⟨e, .revoked, s.tb.uptime⟩
  energy : t.energy.level = s.energy.level ∧ t.energy.charge = s.energy.charge ∧ t.energy.cFull = s.energy.cFull
    ∧ t.energy.soc = s.energy.soc ∧ t.energy.chargeEnable = s.energy.chargeEnable
  /-- R200 -/
  port : ∀ p, (t.port.get p).state = .ready ∧ (t.port.get p).owed = 0 ∧ (t.port.get p).buffer = []
    ∧ (t.port.get p).bad = false ∧ (t.port.get p).overlong = false ∧ (t.port.get p).line = []
    ∧ (t.port.get p).speed = (s.port.get p).speed
    ∧ (t.port.get p).skipping =
        ((s.port.get p).skipping || !(s.port.get p).buffer.isEmpty || (s.port.get p).bad || (s.port.get p).overlong)
  /-- R201 -/
  raised : ∀ p, t.Raised p .restarted ∧ ∀ c ∈ (s.port.get p).pending, c ∈ (t.port.get p).pending
  presented : ∀ p,
    ((t.port.get p).pending = [] ∧ (t.port.get p).presented = none)
      ∨ ∃ c ∈ (t.port.get p).pending, (t.port.get p).presented = some c
        ∧ ∀ e ∈ (t.port.get p).pending, c.priority ≤ e.priority
  /-- R211 -/
  settings : t.settings = s.settings

/-! ### Pairs (R6, R7) -/

/-- R6: the message in the pairing buffer is valid for a PPS taken now. -/
structure State.ValidFor (s : State) (m : Message) : Prop where
  held : s.tb.buffer = some m
  marked : m.valid = true
  sats : s.paramN .timeMinSats ≤ m.sats
  early : m.arrival + 500000 ≤ s.tb.osc

/-- R6: a PPS taken now makes a good pair with the message. -/
structure State.Pairs (s : State) (m : Message) : Prop where
  valid : s.ValidFor m
  follows : ∀ r, s.tb.reference = some r → m.seconds = (r + 1) % 1099511627776

/-- R7: the phase error of a PPS taken now. -/
def State.phaseError (s : State) : Int :=
  if s.tb.ticks < 5000000 then (s.tb.ticks : Int) else (s.tb.ticks : Int) - 10000000

/-- R7, R15, R18: a pair taken now agrees in seconds and lies within the step limit. -/
def State.Within (s : State) (m : Message) : Prop :=
  m.seconds = (if s.tb.ticks < 5000000 then s.tb.seconds else (s.tb.seconds + 1) % 1099511627776)
    ∧ s.phaseError.natAbs ≤ s.paramN .timeStepLimit

end Sys2Proof.Machine
end

