-- ==== Sys2Proof/Certificates/Slice0/Obligations.lean ====
section
/-! DEFINITION. The statements for the provers, family by family. Each docstring names the rule of spec/ it formalises, or the
log entry whose choice it states. -/



open Sys2Proof Sys2Proof.Machine

/-! ### The queue, the reset state and the cold start -/

/-- A step takes the command at the front of the queue and runs it with the rest of the queue. With no command waiting, one
oscillator tick passes: the count and the reading advance by one, up to the last tick of the second, whose end is the command
ROLLOVER (the model's own reading of an empty queue, log entry 3). -/
def Obligations.StepTakesFront : Prop :=
  (∀ (s : State) (c : Instr) (rest : List Instr),
    step { s with pending := c :: rest } = exec c { s with pending := rest })
  ∧ ∀ s : State, s.pending = [] →
    step s =
      .next
        (if s.tb.raw + 1 < s.tb.endAt then { s with tb := { s.tb with raw := s.tb.raw + 1, osc := s.tb.osc + 1 } } else s)

/-- No command but a step itself changes the queue of waiting commands, which is the model's own (log entry 1), and no command
stops the machine, which the model reads from the rules of the commands (log entry 37). -/
def Obligations.ExecKeepsQueue : Prop :=
  ∀ (c : Instr) (s : State), ∃ t, exec c s = .next t ∧ t.pending = s.pending

/-- The state right after reset meets every invariant. -/
def Obligations.ResetIsSafe : Prop := SafeState State.reset

/-- R26, R41, R70: the Timebase, the Sample Front and the Trigger Unit at cold start, the rate in force and ENABLE_OFF from the
settings loaded. -/
def Obligations.ColdStartTimeAndSampling : Prop :=
  ∀ s : State, ∃ t, exec .coldStart s = .next t
    ∧ t.tb.clock = .unset ∧ t.tb.seconds = 0 ∧ t.tb.ticks = 0 ∧ t.tb.uptime = 0 ∧ t.tb.trim = 0 ∧ t.tb.acc = 0 ∧ t.tb.p = 0
    ∧ t.tb.tc = 0 ∧ t.tb.u16 = 0 ∧ t.tb.thetaRef = none ∧ t.tb.session = .idle ∧ t.tb.buffer = none ∧ t.tb.reference = none
    ∧ t.tb.failures = 0 ∧ t.tb.holdOffDue = none ∧ t.tb.scheduleDue = 2 ∧ t.tb.window = none ∧ t.tb.discard = false
    ∧ t.tb.endAt - t.tb.raw = 10000000
    ∧ t.front.state = .stopped ∧ t.front.sampleIndex = 0 ∧ t.front.ring = [] ∧ t.front.newest = none
    ∧ t.front.missingRun = 0 ∧ t.front.linkSeq = 0 ∧ t.front.outstanding = none ∧ t.front.stepPending = false
    ∧ t.front.settleDue = none ∧ t.front.rate = t.paramN .smpRate
    ∧ (∀ a, t.trig.comp.get a =
        { state := .priming, dc := 0, sta := 0, lta := 0, q := none, priming := 0, firstPending := true, run := 0, below := 0,
          candidate := none, onset := none })
    ∧ t.trig.causes = ⟨decide (t.paramN .trigEnable = 0), true, false⟩ ∧ t.trig.station = .suspended
    ∧ t.trig.blanking = 0 ∧ t.trig.event = none ∧ t.trig.countdown = none

/-- R92, R111, R138, R156, R183: the catalogue, the Waveform Store, the Alert Queue, the Thermal Unit and the Energy Unit at cold
start, C_full and the charge from the settings loaded. -/
def Obligations.ColdStartStoresAndPower : Prop :=
  ∀ s : State, ∃ t, exec .coldStart s = .next t
    ∧ t.cat.records = [] ∧ t.cat.lastId = 0 ∧ t.freshRecordId = 1
    ∧ t.store.free = List.range 96 ∧ t.store.jobs = [] ∧ t.store.lastServed = .b ∧ t.store.reads = ⟨none, none⟩
    ∧ t.alerts.alerts = [] ∧ t.alerts.transitDue = none ∧ t.alerts.track = none ∧ t.alerts.lastId = 0
    ∧ t.alerts.delivered = 0 ∧ t.alerts.dropped = 0 ∧ t.alerts.expired = 0 ∧ t.alerts.undeliverable = 0
    ∧ t.alerts.timeouts = 0 ∧ t.alerts.freshId = 1
    ∧ (∀ c, t.thermal.chan.get c = ⟨none, false, 0, none⟩) ∧ t.thermal.completes = none ∧ t.thermal.timerDue = 1
    ∧ t.thermal.latest = none ∧ t.thermal.armed = true ∧ t.thermal.level = .normal ∧ t.thermal.source = false
    ∧ (∀ h, t.heater h =
        { state := .heaterOff, dwell := none, phase := .off, hot := 0, lockout := false, coolSeen := false, faulted := false }
        ∧ (t.heater h).state.requests = false)
    ∧ t.energy.v = none ∧ t.energy.i = none ∧ t.energy.cFull = t.paramN .pwrCapacity * 3600000
    ∧ t.energy.charge = t.paramN .pwrCapacity * 3600000 * t.paramN .pwrInitialSoc / 100
    ∧ t.energy.estimated = true ∧ t.energy.resync = 0 ∧ t.energy.soc = none ∧ t.energy.entry = none ∧ t.energy.usable = none
    ∧ t.energy.level = none
    ∧ (∀ d, (t.dom d).state = .off ∧ (t.dom d).requested = false ∧ (t.dom d).state.switched = false)
    ∧ t.energy.waitingList = [] ∧ t.energy.rising = none ∧ t.energy.nextGrant = none
    ∧ (∀ p d, t.energy.leaseOf p d = none) ∧ (∀ p, t.energy.lastEnd.get p = none) ∧ t.energy.chargeEnable = false

/-- R202, R209: the settings and the ports at cold start. A copy whose marker or sum check is wrong, or whose writing was cut
off, gives the defaults; a copy that meets the ranges and the relations loads unchanged. RESTARTED is presented where it is
routed, and STORE_DEFAULTED waits behind it when the copy was not valid. -/
def Obligations.ColdStartSettings : Prop :=
  ∀ s : State, ∃ t, exec .coldStart s = .next t
    ∧ t.settings.saving = none
    ∧ (s.settings.marker = false ∨ s.settings.saving ≠ none ∨ s.settings.sum ≠ Config.sumCheck s.settings.stored →
        t.settings.marker = (s.settings.marker && s.settings.saving.isNone)
        ∧ t.settings.working = Param.all.map (fun q => q.row.default)
        ∧ t.port.a.pending = [.storeDefaulted, .restarted] ∧ t.port.b.pending = [.restarted])
    ∧ (s.settings.marker = true → s.settings.saving = none → s.settings.sum = Config.sumCheck s.settings.stored →
        TableInv s.settings.stored →
        t.settings = { s.settings with working := s.settings.stored }
        ∧ ∀ p, (t.port.get p).pending = if routed (t.routing p) .restarted then [.restarted] else [])
    ∧ (∀ p, (t.port.get p).speed = t.paramN (baudParam p) ∧ (t.port.get p).buffer = [] ∧ (t.port.get p).bad = false
        ∧ (t.port.get p).overlong = false ∧ (t.port.get p).skipping = false ∧ (t.port.get p).state = .ready
        ∧ (t.port.get p).owed = 0
        ∧ (t.port.get p).presented =
            if .restarted ∈ (t.port.get p).pending then some .restarted else (t.port.get p).pending.head?)

/-! ### What every step keeps -/

/-- R8: the clock is LOCKED exactly while the session is TRACKING. -/
def Obligations.StepKeepsClock : Prop := ∀ s t : State, ClockInv s → step s = .next t → ClockInv t

/-- R57 and the table of 3.1: the station is SUSPENDED exactly while a cause holds, and an event context is present exactly while
the station is ACTIVE or POST. -/
def Obligations.StepKeepsStation : Prop := ∀ s t : State, TriggerInv s → step s = .next t → TriggerInv t

/-- R187, R191, R192, R196, R197: the line buffer, the owed count, the pending set and the presented cause of both ports. -/
def Obligations.StepKeepsPorts : Prop :=
  ∀ s t : State, PortInv s.port.a → PortInv s.port.b → step s = .next t → PortInv t.port.a ∧ PortInv t.port.b

/-- R165 to R168: each domain is requested as its requesters want it, at most one domain is RISING, GNSS and MODEM are RISING
or ON only with AUX ON, and what is not requested or is held OFF has its switch off. -/
def Obligations.StepKeepsDomains : Prop :=
  ∀ s t : State, RequestInv s → SwitchInv s → step s = .next t → RequestInv t ∧ SwitchInv t

/-- R74, R75, R116, R117, R33: the catalogue, the queue and the ring stay within their sizes; record ids, alert ids and job
entries stay distinct; and at most one alert is IN_TRANSIT. With that, R117, R118: the queue keeps its order and at most one
alert of a cause; R94, R95: each of the 96 blocks keeps one holder, and the jobs and the RUNNING records keep to each other; and
R72: no record is OPEN but that of the event in progress. -/
def Obligations.StepKeepsCounts : Prop :=
  ∀ s t : State, CountInv s → step s = .next t →
    CountInv t ∧ (QueueInv s → QueueInv t) ∧ (BlockInv s → BlockInv t) ∧ (TriggerInv s → OpenInv s → OpenInv t)

/-- Section 10, R204, R205, R208, R209: every value of the working table stays within its range and the relations stand, and so
do those of a stored copy that is marked valid. -/
def Obligations.StepKeepsSettings : Prop :=
  ∀ s t : State, SettingsInv s.settings → step s = .next t → SettingsInv t.settings

/-! ### The Station Timebase (01) -/

/-- R1, R2, R3, R8, R22, R23: a rollover. The seconds count rises by one and the reading returns to 0; uptime rises by one; n,
s, acc and the length of the coming second are those of R2; U16 grows while the clock is HOLDOVER and stays otherwise. A change
of the clock state or the class raises TIME_CHANGED, and a class that worsens to COARSE or POOR posts DEGRADED. The order of
these parts, so that U16 grows and the slew is judged before a DORMANT entry of the same rollover, is log entry 24, and that a
second lasts one tick at least is log entry 38. The settings, the input pins, the channels, the trim, the compensation and θ_ref
stay. What falls due with the uptime and is taken first comes with the command (log entry 41): but for that, and short of
DORMANT, which fails a session and clears P (R14), P pays its tick of slew, the store and the acquisition timer stay, and the
front only takes its rate. -/
def Obligations.RolloverEndsSecond : Prop :=
  ∀ (s : State) (shown : Monitor) (first : List Due), ∃ t, exec (.rollover shown first) s = .next t ∧
    let raised := s.tb.acc + clampInt (-5000000) 5000000 (s.tb.trim + s.tb.tc)
    let n := Int.tdiv raised 10000
    let slew : Int := if 0 < s.tb.p then 1 else if s.tb.p < 0 then -1 else 0
    let far : Nat :=
      match s.thermal.chan.osc.value, s.tb.thetaRef with
      | some x, some y => if s.thermal.chan.osc.fault then 320 else (x - y).natAbs
      | _, _ => 320
    t.tb.seconds = (s.tb.seconds + 1) % 1099511627776 ∧ t.tb.raw = 0
      ∧ t.tb.uptime = min 1099511627775 (s.tb.uptime + 1)
      ∧ t.tb.osc = s.tb.osc + (s.tb.endAt - s.tb.raw)
      ∧ t.tb.n = n ∧ t.tb.slew = slew ∧ t.tb.acc = raised - n * 10000
      ∧ t.tb.endAt = max (10000000 + n + slew).toNat 1
      ∧ t.tb.u16 =
          (if s.tb.clock = .holdover then
            min 68719476735 (s.tb.u16 + (16 * s.paramN .timeAging + s.paramN .timeTempCoeff * far))
          else s.tb.u16)
      ∧ t.tb.trim = s.tb.trim ∧ t.tb.tc = s.tb.tc ∧ t.tb.thetaRef = s.tb.thetaRef
      ∧ s.ClockTold t first
      ∧ t.settings = s.settings ∧ t.pins = s.pins ∧ t.thermal.chan = s.thermal.chan
      ∧ (.acquisition ∉ first →
          t.thermal.timerDue = s.thermal.timerDue ∧ t.thermal.completes = s.thermal.completes)
      ∧ (t.energy.level ≠ some .dormant →
          (.sessionLimit ∉ first → t.tb.p = s.tb.p - slew) ∧ (.forcedClose ∉ first → t.store = s.store)
          ∧ (.settle ∉ first → t.front = { s.front with rate := s.paramN .smpRate, gridNext := 0 }))

/-- R158 to R164, R171, R179, R180: the measurement of a rollover, of what the monitor inputs show then (log entry 41), with
pwr.capacity taken first: the charge is held to the new C_full, and a SET that changed the value, as log entry 30 notes it,
leaves the charge ESTIMATED and the resync count 0 (R182). The charge moves by the current of one second, the full-charge test
follows, then the derate entry, the usable charge and the SoC, and the level from these. A change of level raises LEVEL_CHANGED,
posts its POWER alert, and reports itself to the Trigger and Thermal Units and to SENSOR; DORMANT ends the session and turns the
heater domains OFF. A fall meets the leases that are left after the expiries taken first (log entry 41): it revokes or cuts each
by its maximum. The first measurement reports the charge source (charge-enable at it: log entry 29). -/
def Obligations.RolloverMeasures : Prop :=
  ∀ (s : State) (shown : Monitor) (first : List Due), ∃ t, exec (.rollover shown first) s = .next t ∧
    let volts := shown.v.toNat
    let amps := shown.i.toInt
    let cap := s.paramN .pwrCapacity * 3600000
    let fresh := s.energy.capacityChanged
    let held := min s.energy.charge cap
    let moved :=
      if amps < 0 then held - amps.natAbs else min cap (held + amps.toNat * s.paramN .pwrAccept / 100)
    let full := s.paramN .pwrFullV ≤ volts ∧ 0 ≤ amps ∧ amps ≤ s.param .pwrTaper
    let count := if full then (if fresh then 0 else s.energy.resync) + 1 else 0
    let charge := if 600 ≤ count then cap else moved
    let entry : Nat :=
      match s.thermal.chan.batt.value with
      | none => 0
      | some x =>
        if s.thermal.chan.batt.fault = true ∨ x < -640 then 0
        else if 320 ≤ x then 6
        else (Int.fdiv (x + 640) 160).toNat
    let usable := cap * s.paramN (Param.pwrParams.getD (12 + entry) .pwrDerate6) / 100
    let soc := min 100 (100 * charge / usable)
    let down : Level :=
      if soc < s.paramN .pwrDormant ∨ volts < s.paramN .pwrCutoff then .dormant
      else if soc < s.paramN .pwrCritical then .critical
      else if soc < s.paramN .pwrConserve then .conserve
      else .normal
    let up : Level :=
      if s.energy.level = some .dormant ∧ volts < s.paramN .pwrCutoff + 600 then .dormant
      else if s.paramN .pwrConserve + s.paramN .pwrHysteresis ≤ soc then .normal
      else if s.paramN .pwrCritical + s.paramN .pwrHysteresis ≤ soc then .conserve
      else if s.paramN .pwrDormant + s.paramN .pwrHysteresis ≤ soc then .critical
      else .dormant
    t.energy.v = some volts ∧ t.energy.i = some amps ∧ t.energy.cFull = cap ∧ t.energy.charge = charge
      ∧ t.energy.estimated = (if 600 ≤ count then false else fresh || s.energy.estimated)
      ∧ t.energy.resync = (if 600 ≤ count then 0 else count)
      ∧ t.energy.entry = some entry ∧ t.energy.usable = some usable ∧ t.energy.soc = some soc
      ∧ t.energy.capacityChanged = false
      ∧ (let level : Level :=
            match s.energy.level with
            | none => down
            | some l => if down.rank < l.rank then down else if l.rank < up.rank then up else l
        let falls := ∃ l, s.energy.level = some l ∧ level.rank < l.rank
        let uptime := min 1099511627775 (s.tb.uptime + 1)
        let most : LeaseDomain → Purpose → Option Nat := fun d u =>
          match level, d, u with
          | .normal, _, _ => some 3600
          | .conserve, .modem, .routine => some 300
          | .conserve, .modem, .alert => some 3600
          | .conserve, .storage, _ => some 600
          | .critical, .modem, .alert => some 300
          | .critical, .storage, _ => some 120
          | _, _, _ => none
        let expires := fun (p : Port) (d : LeaseDomain) =>
          .leases ∈ first ∧ ∃ x, s.energy.leaseOf p d = some x ∧ x.expiry ≤ uptime
        let revoked := fun (p : Port) (d : LeaseDomain) =>
          falls ∧ ¬ expires p d ∧ ∃ x, s.energy.leaseOf p d = some x ∧ most d x.purpose = none
        t.energy.level = some level
        ∧ (∀ p d,
            (expires p d ∨ revoked p d → t.energy.leaseOf p d = none ∧ t.Raised p .leaseEnded)
            ∧ (¬ expires p d → ¬ revoked p d →
                (falls →
                  t.energy.leaseOf p d =
                    (s.energy.leaseOf p d).map fun x =>
                      { x with expiry := min x.expiry (uptime + (most d x.purpose).getD 0) })
                ∧ (¬ falls → t.energy.leaseOf p d = s.energy.leaseOf p d))
            ∧ (revoked p d → ∃ k, revoked p k ∧ t.energy.lastEnd.get p = some ⟨k, .revoked, uptime⟩)
            ∧ (expires p d → (∀ k, ¬ revoked p k) →
                ∃ k, expires p k ∧ t.energy.lastEnd.get p = some ⟨k, .expired, uptime⟩))
        ∧ (s.energy.level ≠ some level →
            (∀ p, t.Raised p .levelChanged)
            ∧ (level = .conserve → s.Posted t .conserve) ∧ (level = .critical → s.Posted t .critical)
            ∧ (level = .dormant → s.Posted t .dormant)
            ∧ t.thermal.level = level ∧ t.trig.causes.dormant = decide (level = .dormant)
            ∧ (t.dom .sensor).requested = decide (level ≠ .dormant)
            ∧ (level = .dormant →
                t.tb.session = .idle ∧ t.trig.station = .suspended
                ∧ (t.dom .heatBatt).state ∈ [.off, .fault] ∧ (t.dom .heatInst).state ∈ [.off, .fault]))
        ∧ (s.energy.level = none →
            t.thermal.source = s.pins.source
            ∧ t.energy.chargeEnable =
                (s.pins.source && !s.thermal.chan.batt.fault
                  && match s.thermal.chan.batt.value with
                    | some x => decide (s.param .pwrChargeMin * 16 ≤ x ∧ x ≤ s.param .pwrChargeMax * 16)
                    | none => false)))

/-- R5, R212: a time message. In SEEKING and TRACKING a well-formed line is placed in the pairing buffer with its arrival moment
and a line that does not parse leaves the buffer as it was; in IDLE and POWERING the line is discarded. A line of the tokens TT,
a seconds count below 2^40, V or N, and a satellite count up to 99 is well formed. Nothing else changes but the passing of the
`wait` ticks. -/
def Obligations.TimeMessageTaken : Prop :=
  (∀ (s : State) (wait : Nat) (line : List Byte) (framing : Bool),
    let u := s.elapse wait
    exec (.timeMessage wait line framing) s =
      .next
        (if s.tb.session = .seeking ∨ s.tb.session = .tracking then
          match timeMessageOf line framing u.tb.osc with
          | some m => { u with tb := { u.tb with buffer := some m } }
          | none => u
        else u))
  ∧ (∀ (sec sats : Nat) (valid : Bool) (arrival : Nat), sec < 1099511627776 → sats ≤ 99 →
    timeMessageOf
        (("TT ".toList ++ natText sec ++ (if valid then " V " else " N ").toList ++ natText sats).map
          fun c => BitVec.ofNat 8 c.toNat) false arrival =
      some ⟨sec, valid, sats, arrival⟩)
  ∧ ∀ (line : List Byte) (arrival : Nat), timeMessageOf line true arrival = none

/-- R6, R8, R15, R23: a PPS with no session, or in SEEKING. In IDLE and POWERING it is ignored. In SEEKING the pairing buffer is
emptied and the continuity reference becomes the announced count of a valid message, or absent; a missing pair sets the
consecutive-good count to 0 and a good pair raises it. The pair that brings the count to time.acq_pairs locks: where the clock
is set, the pair agrees in seconds and its phase error is within the limit, P becomes the phase error, the clock LOCKED and the
session TRACKING, with U16, θ_ref and the counts of R15, and a window opens at the pair. TIME_CHANGED is raised where the clock
state or the class changes. That the session does not go on as one that continues is log entry 48. -/
def Obligations.PpsSeeking : Prop :=
  ∀ (s : State) (wait : Nat) (e : Ending),
    let u := s.elapse wait
    (s.tb.session = .idle ∨ s.tb.session = .powering → exec (.pps ⟨wait, e⟩) s = .next u)
    ∧ (s.tb.session = .seeking → (∀ m, ¬ u.ValidFor m) →
        exec (.pps ⟨wait, e⟩) s = .next { u with tb := { u.tb with buffer := none, reference := none, goodCount := 0 } })
    ∧ (∀ m, s.tb.session = .seeking → u.ValidFor m → ¬ u.Pairs m →
        exec (.pps ⟨wait, e⟩) s =
          .next { u with tb := { u.tb with buffer := none, reference := some m.seconds, goodCount := 0 } })
    ∧ (∀ m, s.tb.session = .seeking → u.Pairs m → s.tb.goodCount + 1 < s.paramN .timeAcqPairs →
        exec (.pps ⟨wait, e⟩) s =
          .next { u with tb := { u.tb with buffer := none, reference := some m.seconds, goodCount := s.tb.goodCount + 1 } })
    ∧ ∀ m, s.tb.session = .seeking → u.Pairs m → s.paramN .timeAcqPairs ≤ s.tb.goodCount + 1 → s.tb.clock ≠ .unset →
        u.Within m →
        ∃ t, exec (.pps ⟨wait, e⟩) s = .next t
          ∧ t.tb =
              { u.tb with
                buffer := none
                reference := some m.seconds
                goodCount := s.tb.goodCount + 1
                p := u.phaseError
                clock := .locked
                session := .tracking
                u16 := 16 * s.paramN .timeLockFloor
                thetaRef := s.thermal.chan.osc.value
                settleCount := 0
                outlierCount := 0
                missingCount := 0
                continuing := false
                window := some ⟨u.phaseError, 0, 0, s.paramN .timeWindow⟩ }
          ∧ s.ClockTold t [] ∧ t.front = s.front ∧ t.trig = s.trig ∧ t.cat = s.cat ∧ t.store = s.store ∧ t.alerts = s.alerts
          ∧ t.thermal = s.thermal ∧ t.energy = s.energy ∧ t.settings = s.settings ∧ t.pins = s.pins

/-- R1, R2, R8, R16, R17, R18, R23, R82: the time is set at a pair. It is set at the locking pair when the clock is UNSET or the
pair lies beyond the limit or does not agree in seconds, and in TRACKING at the third outlier in a row. A new second begins with
the announced count and the reading 0, with no slew, and the length R2 gives it, one tick at least (log entry 38); uptime rises
by one. A change of the clock state or the class raises TIME_CHANGED, and a class that worsens to COARSE or POOR posts DEGRADED.
A first setting is no step; every other marks the next set and the OPEN record, adds its amount to the record's step total, and
posts STEP above one second. That a session that locks does not go on as one that continues is log entry 48, the order of these
parts is log entry 25, and what falls due with the new uptime and is taken in the same command is log entry 41. -/
def Obligations.PpsSetsTime : Prop :=
  ∀ (s : State) (wait : Nat) (e : Ending) (m : Message),
    let u := s.elapse wait
    u.Pairs m →
    ((s.tb.session = .seeking ∧ s.paramN .timeAcqPairs ≤ s.tb.goodCount + 1 ∧ (s.tb.clock = .unset ∨ ¬ u.Within m))
      ∨ (s.tb.session = .tracking ∧ ¬ u.Within m ∧ 3 ≤ s.tb.outlierCount + 1)) →
    ∃ t, exec (.pps ⟨wait, e⟩) s = .next t ∧
      let raised := s.tb.acc + clampInt (-5000000) 5000000 (s.tb.trim + s.tb.tc)
      let n := Int.tdiv raised 10000
      t.tb.seconds = m.seconds ∧ t.tb.raw = 0 ∧ t.tb.osc = u.tb.osc ∧ t.tb.p = 0 ∧ t.tb.slew = 0
      ∧ t.tb.uptime = min 1099511627775 (s.tb.uptime + 1)
      ∧ t.tb.n = n ∧ t.tb.acc = raised - n * 10000 ∧ t.tb.endAt = max (10000000 + n).toNat 1
      ∧ t.tb.trim = s.tb.trim ∧ t.tb.tc = s.tb.tc ∧ s.ClockTold t e.first
      ∧ t.tb.outlierCount = 0 ∧ t.tb.buffer = none ∧ t.settings = s.settings ∧ t.pins = s.pins
      ∧ t.thermal.chan = s.thermal.chan
      ∧ s.StepTold t
          (if s.tb.clock = .unset then none
          else
            some
              (clampInt (-2147483647) 2147483647
                (((m.seconds : Int) - (u.tb.seconds : Int)) * 10000000 - (u.tb.ticks : Int)))) e.first
      ∧ (t.energy.level ≠ some .dormant →
          (.settle ∉ e.first →
            t.front =
              { s.front with
                rate := s.paramN .smpRate, gridNext := 0,
                stepPending := s.front.stepPending || decide (s.tb.clock ≠ .unset) })
          ∧ (s.tb.session = .seeking →
              t.tb.clock = .locked ∧ t.tb.session = .tracking ∧ t.tb.u16 = 16 * s.paramN .timeLockFloor
              ∧ t.tb.window = some ⟨0, 0, 0, s.paramN .timeWindow⟩ ∧ t.tb.discard = true ∧ t.tb.continuing = false)
          ∧ (s.tb.session = .tracking →
              t.tb.clock = s.tb.clock ∧ t.tb.session = .tracking ∧ t.tb.window = none
              ∧ (s.tb.clock ≠ .unset → t.tb.discard = true)))

/-- R8, R18, R20, R21, R23: a good pair in TRACKING that is no outlier. P becomes the phase error, the outlier and missing
counts 0, the settle count rises; the pair opens a window, counts into it, or closes it, and a window closed unmarked moves the
trim by the clamped correction (the mark that outlives a window is log entry 31). When the settle count has reached
time.settle_pairs, or the session continues from an earlier pair that had, it continues while time.continuous is 1 and the level
NORMAL; otherwise it ends: IDLE, HOLDOVER, U16 at the lock floor, no failures, GNSS released. There a change of the clock state
or the class raises TIME_CHANGED, and a class that worsens to COARSE or POOR posts DEGRADED. -/
def Obligations.PpsDisciplines : Prop :=
  ∀ (s : State) (wait : Nat) (ending : Ending) (m : Message),
    let u := s.elapse wait
    let e := u.phaseError
    s.tb.session = .tracking → u.Pairs m → u.Within m →
    let after : Timebase :=
      { u.tb with
        buffer := none
        reference := some m.seconds
        missingCount := 0
        outlierCount := 0
        settleCount := s.tb.settleCount + 1
        continuing := s.tb.continuing || decide (s.paramN .timeSettlePairs ≤ s.tb.settleCount + 1)
        p := e
        trim :=
          match s.tb.window with
          | none => s.tb.trim
          | some w =>
            if w.pairs + 1 < w.width ∨ s.tb.discard = true then s.tb.trim
            else
              clampInt (-5000000) 5000000
                (s.tb.trim + clampInt (-50000) 50000 (Int.tdiv ((e - w.eStart + w.net) * 10000) w.width))
        discard :=
          match s.tb.window with
          | none => s.tb.discard
          | some w => if w.pairs + 1 < w.width then s.tb.discard else false
        window :=
          match s.tb.window with
          | none => some ⟨e, 0, 0, s.paramN .timeWindow⟩
          | some w =>
            if w.pairs + 1 < w.width then some { w with pairs := w.pairs + 1 }
            else some ⟨e, 0, 0, s.paramN .timeWindow⟩ }
    if (s.tb.continuing = false ∧ s.tb.settleCount + 1 < s.paramN .timeSettlePairs)
        ∨ (s.paramN .timeContinuous = 1 ∧ s.energy.level = some .normal) then
      exec (.pps ⟨wait, ending⟩) s = .next { u with tb := after }
    else
      ∃ t, exec (.pps ⟨wait, ending⟩) s = .next t
        ∧ t.tb =
            { after with
              session := .idle
              continuing := false
              clock := .holdover
              window := none
              buffer := none
              reference := none
              u16 := 16 * s.paramN .timeLockFloor
              failures := 0 }
        ∧ s.ClockTold t []
        ∧ t.energy = { s.energy with domain := s.gnssReleased } ∧ t.front = s.front ∧ t.trig = s.trig ∧ t.store = s.store
        ∧ t.thermal = s.thermal ∧ t.settings = s.settings ∧ t.pins = s.pins

/-- R8, R18, R19, R23: a pair set aside in TRACKING. A first or second outlier raises the outlier count, sets the missing count
to 0 and abandons the window; a missing pair raises the missing count and abandons the window. P, the trim and the settle count
stay. The tenth missing pair takes the clock to HOLDOVER and the session to SEEKING, with the consecutive-good and settle counts
at 0; that it no longer continues is the model's choice (log entry 48). A change of the clock state or the class raises
TIME_CHANGED, and a class that worsens to COARSE or POOR posts DEGRADED. -/
def Obligations.PpsSetAside : Prop :=
  ∀ (s : State) (wait : Nat) (e : Ending),
    let u := s.elapse wait
    s.tb.session = .tracking →
    (∀ m, u.Pairs m → ¬ u.Within m → s.tb.outlierCount + 1 < 3 →
      exec (.pps ⟨wait, e⟩) s =
        .next
          { u with
            tb :=
              { u.tb with
                buffer := none, reference := some m.seconds, missingCount := 0, window := none,
                outlierCount := s.tb.outlierCount + 1 } })
    ∧ ∀ r : Option Nat, (∀ m, ¬ u.Pairs m) →
      ((∃ m, u.ValidFor m ∧ r = some m.seconds) ∨ ((∀ m, ¬ u.ValidFor m) ∧ r = none)) →
      let after : Timebase :=
        { u.tb with buffer := none, reference := r, window := none, missingCount := s.tb.missingCount + 1 }
      if s.tb.missingCount + 1 < 10 then exec (.pps ⟨wait, e⟩) s = .next { u with tb := after }
      else
        ∃ t, exec (.pps ⟨wait, e⟩) s = .next t
          ∧ t.tb = { after with
                clock := .holdover, session := .seeking, goodCount := 0, settleCount := 0, continuing := false }
          ∧ s.ClockTold t []
          ∧ t.energy = s.energy ∧ t.front = s.front ∧ t.trig = s.trig ∧ t.store = s.store ∧ t.thermal = s.thermal
          ∧ t.settings = s.settings ∧ t.pins = s.pins

/-- R10, R11, R13: the schedule timer and the hold-off. Due, the schedule timer is reloaded, from the uptime at which it is
taken (the model's reading of a timer taken late, log entry 27), and a session begins if none runs and the level permits a
scheduled start: NORMAL, or CRITICAL with class POOR or NONE. Due, the hold-off stops running. A timer that is not due does
nothing (log entry 2). -/
def Obligations.GnssTimers : Prop :=
  (∀ s : State,
    exec .scheduleTimer s =
      .next
        (if s.tb.uptime < s.tb.scheduleDue then s
        else if s.tb.session = .idle
            ∧ (s.energy.level = some .normal
              ∨ (s.energy.level = some .critical ∧ (s.tb.cls = .poor ∨ s.tb.cls = .none))) then
          s.sessionBegun
        else
          { s with tb := { s.tb with scheduleDue := s.tb.uptime + s.paramN .timeSessionInterval * 3600 } }))
  ∧ ∀ s : State,
    exec .holdOffDue s =
      .next
        (match s.tb.holdOffDue with
          | some d => if d ≤ s.tb.uptime then { s with tb := { s.tb with holdOffDue := none } } else s
          | none => s)

/-- R14: the session limit. In POWERING or SEEKING, with the uptime at or past the start and time.session_limit, the session
fails: GNSS is released, the hold-off of 3,600 s starts, and the third failure in a row sets the count to 0 and posts SESSIONS,
which the queue holds or has dropped. Otherwise nothing happens. In a state that meets R8. -/
def Obligations.SessionLimitFails : Prop :=
  ∀ s : State, ClockInv s →
    if (s.tb.session = .powering ∨ s.tb.session = .seeking)
        ∧ s.tb.sessionStart + s.paramN .timeSessionLimit ≤ s.tb.uptime then
      ∃ t, exec .sessionLimit s = .next t
        ∧ t.tb =
            { s.tb with
              session := .idle
              continuing := false
              buffer := none
              reference := none
              window := none
              p := 0
              holdOffDue := some (s.tb.uptime + 3600)
              failures := if 3 ≤ s.tb.failures + 1 then 0 else s.tb.failures + 1 }
        ∧ t.energy = { s.energy with domain := s.gnssReleased }
        ∧ (3 ≤ s.tb.failures + 1 →
            (∃ x ∈ t.alerts.alerts, x.cause = some .sessions) ∨ t.alerts.dropped = min 4294967295 (s.alerts.dropped + 1))
        ∧ t.front = s.front ∧ t.trig = s.trig ∧ t.store = s.store ∧ t.thermal = s.thermal ∧ t.settings = s.settings
        ∧ t.pins = s.pins
    else exec .sessionLimit s = .next s

/-- R12: TIME.SESSION. -/
def Obligations.TimeSessionAnswers : Prop :=
  ∀ (s : State) (p : Port) (args : Text), s.Takes p → tokens args = [] →
    exec (.timeSession p args) s =
      .next
        (if s.tb.session = .idle then
          if s.energy.level = some .normal ∨ s.energy.level = some .conserve
              ∨ (s.energy.level = some .critical ∧ (s.tb.cls = .poor ∨ s.tb.cls = .none)) then
            s.sessionBegun.answered p (reply .ok "TIME.SESSION" [])
          else s.answered p (reply .level "TIME.SESSION" [])
        else s.answered p (reply .ok "TIME.SESSION" []))

/-- R1, R2, R8, R17, R23, R24, R82: TIME.SET with three numbers. Out of range is RANGE; LOCKED, SEEKING or TRACKING is STATE;
both change nothing else. Otherwise a new second begins at the given time with P cleared and the length R2 gives it, one tick
past the given reading at least (log entry 38), U16 is 16 times the uncertainty, limited to 10,000,000 ns, θ_ref is the OSC
value in use and the clock HOLDOVER; a step, of a clock that was HOLDOVER, marks the next set and the OPEN record, adds its
amount to the record's step total, and posts STEP above one second. A change of the clock state or the class raises
TIME_CHANGED, and a class that worsens to COARSE or POOR posts DEGRADED. The order of these parts is log entry 25, and what
falls due with the new uptime and is taken in the same command is log entry 41. -/
def Obligations.TimeSetSetsClock : Prop :=
  ∀ (s : State) (p : Port) (args : Text) (e : Ending) (sec ticks unc : Int), s.Takes p →
    numberArgs (tokens args) = some [sec, ticks, unc] →
    if sec < 0 ∨ 1099511627775 < sec ∨ ticks < 0 ∨ 9999999 < ticks ∨ unc < 0 then
      exec (.timeSet p ⟨args, e⟩) s = .next (s.answered p (reply .range "TIME.SET" []))
    else if s.tb.clock = .locked ∨ s.tb.session = .seeking ∨ s.tb.session = .tracking then
      exec (.timeSet p ⟨args, e⟩) s = .next (s.answered p (reply .state "TIME.SET" []))
    else
      ∃ t, exec (.timeSet p ⟨args, e⟩) s = .next t ∧
        let raised := s.tb.acc + clampInt (-5000000) 5000000 (s.tb.trim + s.tb.tc)
        let n := Int.tdiv raised 10000
        (t.tb.seconds : Int) = sec ∧ (t.tb.raw : Int) = ticks ∧ t.tb.osc = s.tb.osc ∧ t.tb.p = 0 ∧ t.tb.slew = 0
        ∧ t.tb.uptime = min 1099511627775 (s.tb.uptime + 1)
        ∧ (t.tb.u16 : Int) = 16 * min unc 10000000 ∧ t.tb.thetaRef = s.thermal.chan.osc.value ∧ t.tb.clock = .holdover
        ∧ t.tb.n = n ∧ t.tb.acc = raised - n * 10000 ∧ t.tb.endAt = max (10000000 + n).toNat (ticks.toNat + 1)
        ∧ s.ClockTold t e.first
        ∧ t.tb.trim = s.tb.trim ∧ t.tb.tc = s.tb.tc ∧ t.settings = s.settings ∧ t.pins = s.pins ∧ t.thermal.chan = s.thermal.chan
        ∧ s.StepTold t
            (if s.tb.clock = .unset then none
            else
              some
                (clampInt (-2147483647) 2147483647
                  ((sec - (s.tb.seconds : Int)) * 10000000 + ticks - (s.tb.ticks : Int)))) e.first
        ∧ (t.energy.level ≠ some .dormant →
            t.front.stepPending = (s.front.stepPending || decide (s.tb.clock = .holdover)) ∧ t.front.ring = s.front.ring
            ∧ t.front.sampleIndex = s.front.sampleIndex)
        ∧ (t.port.get p).state = .responding
        ∧ (t.port.get p).line =
            reply (if 10000000 < unc then .clamped else .ok) "TIME.SET"
              [field "uncertainty" (natText (min unc 10000000).toNat)]

/-! ### Sample Acquisition (02) and Trigger Detection (03) -/

/-- R29, R58: the settle timer falls due. The front enters RUNNING at the first grid point at or after the present reading, and
FRONT_NOT_RUNNING is removed from the causes; where it was the last one the components begin priming and the station is QUIET.
A settle timer that is not due does nothing (log entry 2). -/
def Obligations.SettleTimerStartsFront : Prop :=
  ∀ s : State,
    let spacing := 10000000 / s.front.rate
    (∀ d, s.front.state = .settling → s.front.settleDue = some d → d ≤ s.tb.uptime →
      exec .settleTimer s =
        .next
          { s with
            front :=
              { s.front with
                state := .running, settleDue := none, missingRun := 0, gridNext := (s.tb.raw + spacing - 1) / spacing }
            trig :=
              if s.trig.causes = ⟨false, true, false⟩ then
                { s.trig with
                  causes := ⟨false, false, false⟩
                  station := .quiet
                  comp :=
                    s.trig.comp.map fun c =>
                      { c with
                        state := .priming, priming := 0, firstPending := true, run := 0, below := 0, candidate := none,
                        onset := none, q := none } }
              else { s.trig with causes := { s.trig.causes with frontNotRunning := false } } })
    ∧ (s.front.state ≠ .settling ∨ (∀ d, s.front.settleDue = some d → s.tb.uptime < d) → exec .settleTimer s = .next s)

/-- R30 to R33, R35 to R37, R39, R54, R55, R106: a strobe. At the next grid point the outstanding strobe takes the sample index,
the stamp of the moment, the next link sequence and the pending STEP mark; the index and the sequence count on. Where a strobe
is still outstanding it is abandoned and its set completes MISSING, its blanking mark taken then. With the store free the set is
written at once, and the missing run and the link state follow; with a burst running it waits behind it (that the wait begins
after the blanking mark is log entry 14). The set carries the rate in force at its hand-over, which the length of a blanking
window is taken from: the model's reading (log entry 22). In STOPPED and SETTLING no strobe comes. -/
def Obligations.StrobeIssued : Prop :=
  ∀ (s : State) (busy : Bool), s.front.rate ∈ [20, 40, 50, 100, 200] →
    let spacing := 10000000 / s.front.rate
    let k := max s.front.gridNext ((s.tb.raw + spacing - 1) / spacing)
    let at_ := k * spacing
    let moved : Timebase := { s.tb with raw := at_, osc := s.tb.osc + (at_ - s.tb.raw) }
    let struck : Front :=
      { s.front with
        sampleIndex := (s.front.sampleIndex + 1) % 1099511627776
        linkSeq := (s.front.linkSeq + 1) % 256
        stepPending := false
        outstanding :=
          some ⟨s.front.sampleIndex, ⟨s.tb.seconds, at_, s.tb.cls⟩, (s.front.linkSeq + 1) % 256, s.front.stepPending⟩
        gridNext := k + 1 }
    (s.front.state = .stopped ∨ s.front.state = .settling → exec (.strobe busy) s = .next s)
    ∧ (s.front.state = .running ∨ s.front.state = .linkLost → k < s.front.rate → at_ < s.tb.endAt →
        (s.front.outstanding = none → exec (.strobe busy) s = .next { s with tb := moved, front := struck })
        ∧ ∀ o, s.front.outstanding = some o → s.front.waiting = none →
          let lost : SetRec :=
            ⟨o.index, o.stamp, ⟨0, 0, 0⟩, true, ⟨false, false, false⟩, o.step, decide (0 < s.trig.blanking)⟩
          let run := min 65535 (s.front.missingRun + 1)
          exec (.strobe true) s =
            .next
              { s with
                tb := moved
                front := { struck with waiting := some lost }
                trig := { s.trig with blanking := s.trig.blanking - 1 } }
          ∧ ∃ t, exec (.strobe false) s = .next t
            ∧ t.front =
                { struck with
                  ring := (lost :: s.front.ring).take 16384
                  missingRun := run
                  state :=
                    if s.front.state = .running ∧ s.paramN .smpLostRun ≤ run then .linkLost else s.front.state }
            ∧ t.tb = moved ∧ t.trig.blanking = s.trig.blanking - 1 ∧ t.trig.lastRate = some s.front.rate
            ∧ t.thermal = s.thermal ∧ t.energy = s.energy ∧ t.settings = s.settings ∧ t.pins = s.pins)

/-- R34 to R37, R54, R55, R106, R212: a digitizer frame. The frame of eleven bytes answers the outstanding strobe when its
sequence is the expected one and its fault bit is clear; otherwise the set is MISSING, with zero samples. The set carries the
strobe's index, stamp and STEP mark and the blanking mark; it stands newest in the ring, or waits behind a burst with its mark
taken before (log entry 14). The missing run and the link state follow. The rate the set carries is the one in force at its
hand-over (log entry 22). A malformed frame, or a frame with no strobe outstanding, changes nothing. -/
def Obligations.FrameCompletesSet : Prop :=
  (∀ (s : State) (bytes : List Byte) (framing busy : Bool),
    s.front.outstanding = none ∨ framing = true ∨ bytes.length < 11 →
    exec (.digitizerFrame bytes framing busy) s = .next s)
  ∧ ∀ (s : State) (o : Strobe) (st sq z2 z1 z0 n2 n1 n0 e2 e1 e0 : Byte) (rest : List Byte),
    s.front.outstanding = some o → s.front.waiting = none →
    let bytes := st :: sq :: z2 :: z1 :: z0 :: n2 :: n1 :: n0 :: e2 :: e1 :: e0 :: rest
    let good := decide (sq.toNat = o.expected) && !st.getLsbD 3
    let r : SetRec :=
      { index := o.index
        stamp := o.stamp
        sample := if good then ⟨(z2 ++ z1 ++ z0).toInt, (n2 ++ n1 ++ n0).toInt, (e2 ++ e1 ++ e0).toInt⟩ else ⟨0, 0, 0⟩
        missing := !good
        clipped := if good then ⟨st.getLsbD 0, st.getLsbD 1, st.getLsbD 2⟩ else ⟨false, false, false⟩
        step := o.step
        blanked := decide (0 < s.trig.blanking) }
    exec (.digitizerFrame bytes false true) s =
        .next
          { s with
            front := { s.front with outstanding := none, waiting := some r }
            trig := { s.trig with blanking := s.trig.blanking - 1 } }
    ∧ ∃ t, exec (.digitizerFrame bytes false false) s = .next t
      ∧ t.front =
          { s.front with
            outstanding := none
            ring := (r :: s.front.ring).take 16384
            state :=
              if s.front.state = .running ∧ good = false
                  ∧ s.paramN .smpLostRun ≤ min 65535 (s.front.missingRun + 1) then .linkLost
              else if s.front.state = .linkLost ∧ good = true then .running
              else s.front.state
            missingRun :=
              if s.front.state = .stopped ∨ s.front.state = .settling then s.front.missingRun
              else if good then 0
              else min 65535 (s.front.missingRun + 1) }
      ∧ t.trig.blanking = s.trig.blanking - 1 ∧ t.trig.lastRate = some s.front.rate
      ∧ t.tb = s.tb ∧ t.thermal = s.thermal ∧ t.energy = s.energy ∧ t.settings = s.settings ∧ t.pins = s.pins

/-- R43 to R47, R49 to R52, R105, R106: a waiting ring write is granted and its set handed over. A write that overwrites a set
laps each job that still needs it: the job is gone, its record TRUNCATED with its part block posted, and EVENT_READY raised. In
RUNNING, with the station not SUSPENDED, a set that is neither MISSING nor BLANKED passes the chain of each component and then
moves its state; any other set changes no component. That an ARMING component sets its run to 0 as it enters TRIGGERED is the
model's choice (log entry 33). -/
def Obligations.ComponentsProcess : Prop :=
  (∀ s : State, s.front.waiting = none → exec .ringWrite s = .next s)
  ∧ ∀ (s : State) (r : SetRec), s.front.waiting = some r → s.front.state = .running →
    ∃ t, exec .ringWrite s = .next t
      ∧ t.front.ring = (r :: s.front.ring).take 16384 ∧ t.front.waiting = none
      ∧ t.tb = s.tb ∧ t.thermal = s.thermal ∧ t.energy = s.energy ∧ t.settings = s.settings ∧ t.pins = s.pins
      ∧ (CountInv s → BlockInv s → 16384 ≤ s.front.ring.length → ∀ j ∈ s.store.jobs,
          j.next = idxSub r.index 16384 → j.done = false →
          (∀ k ∈ t.store.jobs, k.record ≠ j.record) ∧ (∀ p, t.Raised p .eventReady)
          ∧ ∃ x ∈ t.cat.records, x.id = j.record ∧ x.capture = .truncated ∧ x.flags.truncated = true
            ∧ ∀ b, j.current = some b → b.sets ≠ [] → b ∈ x.blocks)
      ∧ (s.trig.station = .suspended ∨ r.missing = true ∨ r.blanked = true → t.trig.comp = s.trig.comp)
      ∧ (s.trig.station ≠ .suspended → r.missing = false → r.blanked = false → ∀ a,
          let c := s.trig.comp.get a
          let x := r.sample.get a * 256
          let shift := s.paramN .trigDcShift
          let d := if shift = 0 then x else x - c.dc
          let v := min d.natAbs 4294967295
          let toward := fun (old k : Nat) => ((old : Int) + Int.fdiv ((v : Int) - old) (2 ^ k)).toNat
          let sta := toward c.sta (s.paramN .trigStaShift)
          let lta := if c.state = .triggered then c.lta else toward c.lta (s.paramN .trigLtaShift)
          let q := min 4095 (16 * sta / max lta (256 * s.paramN .trigLtaFloor))
          let k : Comp :=
            { c with
              dc :=
                if shift = 0 then 0
                else clampInt (-2147483648) 2147483647 (c.dc + Int.fdiv (x - c.dc) (2 ^ shift))
              sta := sta
              lta := lta
              q := if c.state = .priming then none else some q
              priming := if c.state = .priming then c.priming + 1 else c.priming }
          let here : Mark := ⟨r.index, r.stamp⟩
          (c.firstPending = true → c.state = .priming →
            let dc := if shift = 0 then 0 else x
            let first := min (x - dc).natAbs 4294967295
            t.trig.comp.get a = { c with dc := dc, sta := first, lta := first, firstPending := false, priming := 1 })
          ∧ (c.firstPending = false →
            t.trig.comp.get a =
              match c.state with
              | .priming => if 2 ^ (s.paramN .trigLtaShift + 1) ≤ c.priming + 1 then { k with state := .quiet } else k
              | .quiet =>
                if s.paramN .trigOn ≤ q then
                  if 1 < s.paramN .trigConfirm then { k with state := .arming, run := 1, candidate := some here }
                  else { k with state := .triggered, onset := some here, below := 0 }
                else k
              | .arming =>
                if s.paramN .trigOn ≤ q then
                  if s.paramN .trigConfirm ≤ c.run + 1 then
                    { k with state := .triggered, onset := c.candidate, below := 0, run := 0, candidate := none }
                  else { k with run := c.run + 1 }
                else { k with state := .quiet, run := 0, candidate := none }
              | .triggered =>
                if q < s.paramN .trigOff then
                  if s.paramN .trigHold ≤ c.below + 1 then { k with state := .quiet, below := 0, onset := none }
                  else { k with below := c.below + 1 }
                else { k with below := 0 }))

/-- R56, R59 to R64, R77, R78, R80, R83, R97 to R99, R123, R124: the station follows the vote. At each set in RUNNING, MISSING
or not, that does not lose the link, the station opens an event, holds it, begins or ends the post-roll. An opening takes the
smallest onset among the voting components, makes the record, or posts CATALOGUE_FULL; asks for its capture job, for which the
latest MANUAL job gives way and which four EVENT jobs refuse; and queues the preliminary alert where it is wanted. While the
event runs its figures follow, in the record too. The end of the post-roll closes the record at this set with its figures and
flags, hands its index to the job, and queues the final summary, or revises the alert that stands. `State.Opened` and
`State.Ended` say the two, `State.Closed` the close of the record, the job and the alert. -/
def Obligations.StationFollowsVote : Prop :=
  ∀ (s : State) (r : SetRec), TriggerInv s → s.front.waiting = some r → s.front.state = .running →
    r.missing = false ∨ min 65535 (s.front.missingRun + 1) < s.paramN .smpLostRun → s.trig.station ≠ .suspended →
    ∃ t, exec .ringWrite s = .next t ∧
      let weigh := fun (a : Axis) (q : Param) => if (t.trig.comp.get a).state = .triggered then s.paramN q else 0
      let up := s.paramN .trigVote ≤ weigh .z .trigWeightZ + weigh .n .trigWeightN + weigh .e .trigWeightE
      let ended := ∀ c, s.trig.event = some c → s.Ended t r c
      let goes := ∀ c, s.trig.event = some c →
        t.trig.event = some (c.followed s t r)
        ∧ (c.followed s t r ≠ c → ∀ id, c.record = some id → ∀ x ∈ t.cat.records, x.id = id →
            x.peak = some (c.followed s t r).peak ∧ x.ratio = some (c.followed s t r).ratio
            ∧ x.triggered = some (c.followed s t r).triggered
            ∧ x.severity = some (s.quakeSeverity (c.followed s t r).peak))
      (s.trig.station = .quiet →
        if up then t.trig.station = .active ∧ ∃ c, t.trig.event = some c ∧ s.Opened t r c
        else t.trig.station = .quiet ∧ t.trig.event = none)
      ∧ (s.trig.station = .active →
        if up then t.trig.station = .active ∧ goes
        else if s.paramN .trigPostroll = 0 then t.trig.station = .quiet ∧ t.trig.event = none ∧ ended
        else t.trig.station = .post ∧ t.trig.countdown = some (s.paramN .trigPostroll) ∧ goes)
      ∧ (s.trig.station = .post →
        if up then t.trig.station = .active ∧ t.trig.countdown = none ∧ goes
        else
          match s.trig.countdown with
          | some (n + 2) => t.trig.station = .post ∧ t.trig.countdown = some (n + 1) ∧ goes
          | _ => t.trig.station = .quiet ∧ t.trig.event = none ∧ ended)

/-- R63, R65, R83, R99, R124: the forced close. When trig.max_duration has passed since the event opened, the event closes with
the flag FORCED and ends at the newest set: the record holds its final figures and flags, the job has the end index, and the
final summary is queued or revises the alert that stands, as `State.Closed` says. Each TRIGGERED component takes QUIET with LTA
set to STA; the station is QUIET. Before that moment, and with no event, nothing happens (log entry 2). -/
def Obligations.ForcedCloseEndsEvent : Prop :=
  ∀ s : State,
    (s.trig.event = none → exec .forcedClose s = .next s)
    ∧ ∀ c, s.trig.event = some c →
      if c.openUptime + s.paramN .trigMaxDuration ≤ s.tb.uptime then
        ∃ t, exec .forcedClose s = .next t
          ∧ t.trig =
              { s.trig with
                station := .quiet
                event := none
                countdown := none
                comp :=
                  s.trig.comp.map fun k =>
                    if k.state = .triggered then { k with state := .quiet, lta := k.sta, below := 0, onset := none } else k }
          ∧ s.Closed t c (match s.front.ring with | [] => c.openIndex | y :: _ => y.index) true false
          ∧ t.front = s.front ∧ t.tb = s.tb ∧ t.thermal = s.thermal ∧ t.energy = s.energy ∧ t.settings = s.settings
          ∧ t.pins = s.pins
      else exec .forcedClose s = .next s


/-! ### The Event Catalogue (04) and the Waveform Store (05) -/

/-- R75, R116: the id that the next record takes, and the one that the next alert takes, are in range and are not in use: no alert
holds the alert id, and the record id is borne by no record but a RELEASED one and is no alert's event id. -/
def Obligations.AssignedIdsAreFree : Prop :=
  ∀ s : State, CountInv s →
    (1 ≤ s.freshRecordId ∧ s.freshRecordId ≤ 65535
      ∧ (∀ r ∈ s.cat.records, r.id = s.freshRecordId → r.state = .released)
      ∧ ∀ x ∈ s.alerts.alerts, x.event ≠ some s.freshRecordId)
    ∧ 1 ≤ s.alerts.freshId ∧ s.alerts.freshId ≤ 65535 ∧ ∀ x ∈ s.alerts.alerts, x.id ≠ s.alerts.freshId

/-- R91, R95: EVT.RELEASE. A CLOSED record whose capture is not RUNNING and that nothing pins becomes RELEASED, and its blocks join
the free-block list at its tail; where one job waits for a block and its next set is available, the head goes to that job at
once. -/
def Obligations.EvtReleaseFreesBlocks : Prop :=
  ∀ (s : State) (p : Port) (args : Text) (n : Int), s.Takes p → numberArgs (tokens args) = some [n] →
    let answer := fun (st : Status) (fields : List Text) => exec (.evtRelease p args) s =
      .next (s.answered p (reply st "EVT.RELEASE" fields))
    let named := [field "id" (natText n.toNat)]
    let freed : Catalogue :=
      { s.cat with
        records := s.cat.records.map fun x => if x.id = n.toNat then { x with state := .released, blocks := [] } else x }
    if n < 1 ∨ 65535 < n then answer .range []
    else
      match s.cat.records.find? fun r => decide (r.id = n.toNat) with
      | none => answer .missing []
      | some r =>
        if r.state = .released then answer .ok named
        else if r.state = .opened ∨ r.capture = .running then answer .state []
        else if 0 < r.pins then answer .busy []
        else
          ((∀ j ∈ s.store.jobs, j.state ≠ .waitingBlock) →
            exec (.evtRelease p args) s =
              .next
                (({ s with
                    cat := freed
                    store := { s.store with free := s.store.free ++ r.blocks.map fun b => b.number } } : State).answered p
                  (reply .ok "EVT.RELEASE" named)))
          ∧ ∀ (j : Job) (b : Block) (rest : List Block), s.store.jobs = [j] → j.state = .waitingBlock → j.current = none →
            j.available s.front = true → s.store.free = [] → r.blocks = b :: rest →
            exec (.evtRelease p args) s =
              .next
                (({ s with
                    cat := freed
                    store :=
                      { s.store with
                        free := rest.map fun b => b.number
                        jobs := [{ j with current := some ⟨b.number, []⟩, state := .copying }] } } : State).answered p
                  (reply .ok "EVT.RELEASE" named))

/-- R79, R96, R100, R101: WAV.CAPTURE. A number out of range, a start below the oldest available index, or an end more than
8,192 above the newest, is RANGE; no empty table entry, or no room in the catalogue, is FULL. Otherwise a MANUAL record, CLOSED,
and its job join, the capture status RUNNING, the stamp that of the start set when the ring holds it. When its start set is
available the job holds the head of the free-block list, or, the list empty, is in WAITING_BLOCK with BLOCKS_EXHAUSTED posted;
otherwise the Alert Queue stays as it is. -/
def Obligations.WavCaptureMakesJob : Prop :=
  ∀ (s : State) (p : Port) (args : Text) (start count : Int), s.Takes p →
    numberArgs (tokens args) = some [start, count] →
    let answer := fun st => exec (.wavCapture p args) s = .next (s.answered p (reply st "WAV.CAPTURE" []))
    let stop := idxAdd start.toNat (count.toNat - 1)
    let stamp := (s.front.ring.find? fun r => decide (r.index = start.toNat)).map fun r => r.stamp
    if start < 0 ∨ 1099511627775 < start ∨ count < 1 ∨ 49152 < count then answer .range
    else if idxLt start.toNat s.front.oldestIdx = true ∨ idxLt (idxAdd s.front.newestIdx 8192) stop = true then answer .range
    else if ∀ n < 4, ∃ j ∈ s.store.jobs, j.number = n then answer .full
    else if 32 ≤ s.cat.records.length ∧ ∀ r ∈ s.cat.records, r.state ≠ .released then answer .full
    else
      ∃ t r j, exec (.wavCapture p args) s = .next t
        ∧ t.cat.records.getLast? = some r ∧ t.cat.lastId = r.id
        ∧ r.kind = .manual ∧ r.state = .closed ∧ r.onsetIndex = start.toNat ∧ r.onsetStamp = stamp
        ∧ r.closeIndex = some stop ∧ r.duration = some count.toNat ∧ r.capture = .running ∧ r.blocks = [] ∧ r.link = .none
        ∧ r.pins = 0 ∧ r.openIndex = none ∧ r.voting = none ∧ r.triggered = none ∧ r.peak = none ∧ r.ratio = none
        ∧ r.severity = none ∧ r.stepTotal = none
        ∧ t.store.jobs = s.store.jobs ++ [j]
        ∧ j.kind = .manual ∧ j.record = r.id ∧ j.start = start.toNat ∧ j.next = start.toNat ∧ j.stop = some stop
        ∧ j.posted = 0 ∧ j.stampPending = stamp.isNone ∧ (∀ k ∈ s.store.jobs, k.number ≠ j.number) ∧ j.number < 4
        ∧ ((∃ w, s.front.newest = some w ∧ idxLe start.toNat w = true) →
            match s.store.free with
            | [] => j.state = .waitingBlock ∧ j.current = none ∧ t.store.free = [] ∧ s.Posted t .blocksExhausted
            | b :: rest =>
              j.state = .copying ∧ j.current = some ⟨b, []⟩ ∧ t.store.free = rest ∧ t.alerts = s.alerts)
        ∧ ((∀ w, s.front.newest = some w → idxLe start.toNat w = false) →
            j.state = .waitingData ∧ j.current = none ∧ t.store.free = s.store.free ∧ t.alerts = s.alerts)
        ∧ (t.port.get p).state = .responding
        ∧ (t.port.get p).line = reply .ok "WAV.CAPTURE" [field "id" (natText r.id)]
        ∧ t.tb = s.tb ∧ t.front = s.front ∧ t.trig = s.trig ∧ t.thermal = s.thermal ∧ t.energy = s.energy
        ∧ t.settings = s.settings ∧ t.pins = s.pins

/-- R100, R102 to R104, R86, R106: one burst of the job served: the earliest created COPYING job, EVENT before MANUAL. Up to 64
sets pass from the ring into its block, no more than the block, the ring and the end index allow. A job that is then done ends
COMPLETE, its block posted; a full block is posted, and with 24 posted the job ends LONG, otherwise it takes the head of the
free-block list, waits for a set, or, the list empty, enters WAITING_BLOCK with BLOCKS_EXHAUSTED posted. With a ring write
waiting, or no job COPYING, there is no burst (log entry 2). -/
def Obligations.CaptureBurstCopies : Prop :=
  ∀ s : State,
    (s.front.waiting ≠ none ∨ (∀ j ∈ s.store.jobs, j.state ≠ .copying) → exec .captureBurst s = .next s)
    ∧ ∀ (before after : List Job) (j : Job) (b : Block) (w : Nat), CountInv s → s.front.waiting = none →
      s.front.newest = some w → s.store.jobs = before ++ j :: after → j.state = .copying → j.current = some b →
      (∀ k ∈ before, k.state = .copying → k.kind = .manual ∧ j.kind = .event) →
      (∀ k ∈ after, k.state = .copying → k.kind = .event → j.kind = .event) →
      let most := min (min 64 (2048 - b.sets.length)) (idxSub w j.next + 1)
      let count :=
        match j.stop with
        | some e => min most (idxSub e j.next + 1)
        | none => most
      let sets := (s.front.ring.take (idxSub w j.next + 1)).reverse.take count
      let full : Block := { b with sets := b.sets ++ sets }
      let next : Job := { j with next := idxAdd j.next sets.length, current := some full, stampPending := false }
      let stamped : Record → Record := fun x =>
        match j.stampPending, sets with
        | true, r :: _ => { x with onsetStamp := some (x.onsetStamp.getD r.stamp) }
        | _, _ => x
      let change := fun f : Record → Record =>
        { s.cat with records := s.cat.records.map fun x => if x.id = j.record then f (stamped x) else x }
      let done := ∃ e, next.stop = some e ∧ idxLt e next.next = true
      sets ≠ [] →
      (¬ done → full.sets.length < 2048 → j.posted < 24 →
        exec .captureBurst s =
          .next
            { s with
              cat := change id
              store :=
                { s.store with
                  jobs :=
                    before
                      ++ { next with state := if next.available s.front = true then .copying else .waitingData } :: after } })
      ∧ (done →
        ∃ t, exec .captureBurst s = .next t
          ∧ t.store = { s.store with jobs := before ++ after }
          ∧ t.cat = change (fun x => { x with blocks := x.blocks ++ [full], capture := .complete })
          ∧ (∀ p, t.Raised p .eventReady)
          ∧ t.front = s.front ∧ t.tb = s.tb ∧ t.trig = s.trig ∧ t.alerts = s.alerts ∧ t.thermal = s.thermal
          ∧ t.energy = s.energy ∧ t.settings = s.settings ∧ t.pins = s.pins)
      ∧ (¬ done → 2048 ≤ full.sets.length → 24 ≤ j.posted + 1 →
        ∃ t, exec .captureBurst s = .next t
          ∧ t.store = { s.store with jobs := before ++ after }
          ∧ t.cat =
              change
                (fun x =>
                  { x with blocks := x.blocks ++ [full], capture := .complete, flags := { x.flags with long := true } })
          ∧ (∀ p, t.Raised p .eventReady) ∧ t.front = s.front ∧ t.alerts = s.alerts)
      ∧ (¬ done → 2048 ≤ full.sets.length → j.posted + 1 < 24 →
        let posted := change fun x => { x with blocks := x.blocks ++ [full] }
        (next.available s.front = false →
          exec .captureBurst s =
            .next
              { s with
                cat := posted
                store :=
                  { s.store with
                    jobs :=
                      before ++ { next with current := none, posted := j.posted + 1, state := .waitingData } :: after } })
        ∧ (∀ n rest, next.available s.front = true → s.store.free = n :: rest →
          exec .captureBurst s =
            .next
              { s with
                cat := posted
                store :=
                  { s.store with
                    free := rest
                    jobs := before ++ { next with current := some ⟨n, []⟩, posted := j.posted + 1 } :: after } })
        ∧ (next.available s.front = true → s.store.free = [] →
          ∃ t, exec .captureBurst s = .next t
            ∧ t.store =
                { s.store with
                  jobs :=
                    before ++ { next with current := none, posted := j.posted + 1, state := .waitingBlock } :: after }
            ∧ s.Posted t .blocksExhausted
            ∧ (t.cat.records.map fun x => (x.id, x.blocks)) = posted.records.map (fun x => (x.id, x.blocks))
            ∧ t.front = s.front ∧ t.tb = s.tb ∧ t.trig = s.trig ∧ t.thermal = s.thermal ∧ t.energy = s.energy
            ∧ t.settings = s.settings ∧ t.pins = s.pins))

/-- R88, R108: WAV.READ. Numbers out of range, a position with no block, or an offset at or past the block's fill, is RANGE; no
record with the id, or a RELEASED one, is MISSING. Otherwise the record gains a pin, the port's read begins, of the count limited
to what the block holds, and the line carries what will follow. -/
def Obligations.WavReadBegins : Prop :=
  ∀ (s : State) (p : Port) (args : Text) (id position offset count : Int), s.Takes p →
    numberArgs (tokens args) = some [id, position, offset, count] →
    exec (.wavRead p args) s =
      .next
        (if id < 1 ∨ 65535 < id ∨ position < 0 ∨ 23 < position ∨ offset < 0 ∨ 2047 < offset ∨ count < 1 ∨ 256 < count then
          s.answered p (reply .range "WAV.READ" [])
        else
          match s.cat.records.find? fun r => decide (r.id = id.toNat) with
          | none => s.answered p (reply .missing "WAV.READ" [])
          | some r =>
            if r.state = .released then s.answered p (reply .missing "WAV.READ" [])
            else
              match r.blocks[position.toNat]? with
              | none => s.answered p (reply .range "WAV.READ" [])
              | some b =>
                if b.sets.length ≤ offset.toNat then s.answered p (reply .range "WAV.READ" [])
                else
                  let left := min count.toNat (b.sets.length - offset.toNat)
                  ({ s with
                      cat :=
                        { s.cat with
                          records :=
                            s.cat.records.map fun x => if x.id = id.toNat then { x with pins := x.pins + 1 } else x }
                      store :=
                        { s.store with
                          reads := s.store.reads.set p (some ⟨id.toNat, position.toNat, offset.toNat, left⟩) } } :
                    State).answered p
                    (reply (if b.sets.length < offset.toNat + count.toNat then .clamped else .ok) "WAV.READ"
                      [field "id" (natText id.toNat), field "position" (natText position.toNat),
                        field "block" (natText b.number), field "offset" (natText offset.toNat),
                        field "count" (natText left)]))

/-- R106, R107, R109, R214: a read burst. It is granted only when no ring write waits and no job is COPYING; of two ports that
request one, the port not served last has it. Up to 64 sets of 24 bytes pass to the port's payload; the read keeps its pin, the
last set passed included (R191; log entry 21). -/
def Obligations.ReadBurstsAlternate : Prop :=
  (∀ x : SetRec, x.bytes.length = 24)
  ∧ ∀ (s : State) (reqA reqB : Bool),
    let asks := fun p : Port => (match p with | .a => reqA | .b => reqB) = true ∧ ∃ r, s.store.reads.get p = some r ∧ 0 < r.left
    (s.front.waiting ≠ none ∨ (∃ j ∈ s.store.jobs, j.state = .copying) ∨ (∀ p, ¬ asks p) →
      exec (.readBurst reqA reqB) s = .next s)
    ∧ ∀ (p : Port) (r : Read) (c : Record) (b : Block), s.front.waiting = none →
      (∀ j ∈ s.store.jobs, j.state ≠ .copying) → asks p → s.store.reads.get p = some r →
      ¬ asks p.other ∨ s.store.lastServed = p.other →
      s.cat.records.find? (fun x => decide (x.id = r.record)) = some c → c.blocks[r.position]? = some b →
      exec (.readBurst reqA reqB) s =
        .next
          { s with
            store :=
              { s.store with
                lastServed := p
                reads :=
                  s.store.reads.set p
                    (some { r with offset := r.offset + min 64 r.left, left := r.left - min 64 r.left }) }
            port :=
              s.port.set p
                { s.port.get p with
                  payload :=
                    (s.port.get p).payload ++ ((b.sets.drop r.offset).take (min 64 r.left)).flatMap fun x => x.bytes } }

/-! ### Alerts and the Uplink Handoff (06) -/

/-- R126: ALR.FETCH. The binding port of an alert in transit is given that alert again and nothing changes; the other port is
answered STATE. With none in transit, an empty queue is MISSING, and otherwise the head goes IN_TRANSIT bound to the port, the
transit timer runs and the answer carries the alert's content. -/
def Obligations.AlrFetchHandsOver : Prop :=
  ∀ (s : State) (p : Port) (args : Text), s.Takes p → tokens args = [] →
    exec (.alrFetch p args) s =
      .next
        (match s.alerts.alerts.find? fun x => x.transit.isSome with
          | some x =>
            s.answered p (if x.transit = some p then reply .ok "ALR.FETCH" x.content else reply .state "ALR.FETCH" [])
          | none =>
            match s.alerts.alerts with
            | [] => s.answered p (reply .missing "ALR.FETCH" [])
            | x :: _ =>
              ({ s with
                  alerts :=
                    { s.alerts with
                      alerts := s.alerts.alerts.map fun y => if y.id = x.id then { y with transit := some p } else y
                      transitDue := some (s.tb.uptime + s.paramN .alrTransit) } } : State).answered p
                (reply .ok "ALR.FETCH" x.content))

/-- R127 to R130, R120, R125: ALR.RESULT. An id out of range is RANGE; an id that is not of the alert in transit bound to this port
is STALE. DELIVERED removes the alert, links its record and, where a revision pends, queues it as a new alert one revision
higher. FAILED raises attempts, and at alr.attempts removes the alert. FAILED below that, and DEFERRED, return it to QUEUED
with a pending revision applied, or it expires. The transit timer stops. -/
def Obligations.AlrResultSettles : Prop :=
  ∀ (s : State) (p : Port) (args a b : Text) (n : Int) (r : Result), CountInv s → s.Takes p → tokens args = [a, b] →
    numberToken a = some n → resultWord b = some r →
    if n < 1 ∨ 65535 < n then exec (.alrResult p args) s = .next (s.answered p (reply .range "ALR.RESULT" []))
    else
      ((∀ x ∈ s.alerts.alerts, ¬ (x.transit = some p ∧ x.id = n.toNat)) →
        exec (.alrResult p args) s = .next (s.answered p (reply .stale "ALR.RESULT" [])))
      ∧ ∀ x ∈ s.alerts.alerts, x.transit = some p → x.id = n.toNat →
        ∃ t, exec (.alrResult p args) s = .next t
          ∧ (t.port.get p).state = .responding
          ∧ (t.port.get p).line =
              reply .ok "ALR.RESULT" [field "id" (natText x.id), field "outcome" r.name.toList]
          ∧ t.alerts.transitDue = none ∧ (∀ y ∈ t.alerts.alerts, y.transit = none)
          ∧ t.tb = s.tb ∧ t.front = s.front ∧ t.trig = s.trig ∧ t.store = s.store ∧ t.thermal = s.thermal
          ∧ t.energy = s.energy ∧ t.settings = s.settings ∧ t.pins = s.pins
          ∧ (let others := s.alerts.alerts.filter fun y => decide (y.id ≠ x.id)
            let revision := (x.quake.map fun q => q.revision).getD 0
            let linked := fun l : Link =>
              ∀ e, x.event = some e → ∀ c ∈ t.cat.records, c.id = e → c.kind = .event → c.link = l
            let returned := fun k : Nat =>
              if x.expiry ≤ s.tb.uptime then
                t.alerts.alerts = others ∧ t.alerts.expired = min 4294967295 (s.alerts.expired + 1) ∧ linked .lost
              else
                t.cat = s.cat ∧ t.alerts.expired = s.alerts.expired
                ∧ (x.pending = none →
                  t.alerts.alerts =
                    s.alerts.alerts.map fun y => if y.id = x.id then { x with transit := none, attempts := k } else y)
                ∧ (∀ v, x.pending = some v →
                  ∃ y ∈ t.alerts.alerts,
                    y =
                      { x with
                        transit := none, attempts := k, pending := none, severity := v.severity,
                        quake := some { v.summary with revision := revision } })
                ∧ ∀ q, t.Raised q .alertWaiting
            match r with
            | .delivered =>
              t.alerts.delivered = min 4294967295 (s.alerts.delivered + 1)
              ∧ (x.pending = none →
                t.alerts.alerts = others ∧ linked (.delivered revision)
                ∧ (others ≠ [] → ∀ q, t.Raised q .alertWaiting))
              ∧ ∀ v, x.pending = some v →
                t.alerts.alerts.length = s.alerts.alerts.length
                ∧ ∃ y ∈ t.alerts.alerts, y.event = x.event ∧ y.cause = none ∧ y.severity = v.severity ∧ y.attempts = 0
                  ∧ y.quake = some { v.summary with revision := revision + 1 } ∧ y.created = s.stamp
                  ∧ y.expiry = s.tb.uptime + s.ttl v.severity
            | .failed =>
              if s.paramN .alrAttempts ≤ x.attempts + 1 then
                t.alerts.alerts = others ∧ t.alerts.undeliverable = min 4294967295 (s.alerts.undeliverable + 1)
                ∧ linked .lost
              else returned (x.attempts + 1)
            | .deferred => returned x.attempts)

/-- R131: the transit timer. Due, it makes the transit FAILED: the alert returns to QUEUED with one more attempt, or leaves the
queue when that reaches alr.attempts or its expiry has passed; the timeouts count rises, the timer stops and TRANSIT_TIMEOUT is
raised toward the binding port. With nothing in transit, or a timer that is not due, nothing happens (log entry 2). -/
def Obligations.TransitTimesOut : Prop :=
  ∀ s : State, CountInv s →
    ((∀ x ∈ s.alerts.alerts, x.transit = none) ∨ (∀ d, s.alerts.transitDue = some d → s.tb.uptime < d) →
      exec .transitTimerDue s = .next s)
    ∧ ∀ (x : Alert) (p : Port) (d : Nat), x ∈ s.alerts.alerts → x.transit = some p → s.alerts.transitDue = some d →
      d ≤ s.tb.uptime →
      ∃ t, exec .transitTimerDue s = .next t
        ∧ t.alerts.transitDue = none ∧ t.alerts.timeouts = min 4294967295 (s.alerts.timeouts + 1)
        ∧ t.Raised p .transitTimeout
        ∧ (let others := s.alerts.alerts.filter fun y => decide (y.id ≠ x.id)
          if s.paramN .alrAttempts ≤ x.attempts + 1 then
            t.alerts.alerts = others ∧ t.alerts.undeliverable = min 4294967295 (s.alerts.undeliverable + 1)
          else if x.expiry ≤ s.tb.uptime then
            t.alerts.alerts = others ∧ t.alerts.expired = min 4294967295 (s.alerts.expired + 1)
          else
            (x.pending = none →
              t.alerts.alerts =
                s.alerts.alerts.map fun y =>
                  if y.id = x.id then { x with transit := none, attempts := x.attempts + 1 } else y)
            ∧ ∀ v, x.pending = some v →
              ∃ y ∈ t.alerts.alerts, y.id = x.id ∧ y.transit = none ∧ y.attempts = x.attempts + 1 ∧ y.pending = none
                ∧ y.severity = v.severity)
        ∧ t.tb = s.tb ∧ t.front = s.front ∧ t.trig = s.trig ∧ t.store = s.store ∧ t.thermal = s.thermal
        ∧ t.energy = s.energy ∧ t.settings = s.settings ∧ t.pins = s.pins

/-- R120, R132: the expiry of alerts. Every QUEUED alert whose expiry is at or below the uptime leaves the queue, the others
keep their order, the expired count rises by their number up to its top, and an expired alert's record is LOST. No port changes:
of R132, which has ALERT_WAITING judged after the expiries, and R133, by which an expiry raises none, the model follows R133
(log entry 18). -/
def Obligations.AlertsExpire : Prop :=
  ∀ s : State, CountInv s →
    let gone := fun x : Alert => x.transit = none ∧ x.expiry ≤ s.tb.uptime
    let count := (s.alerts.alerts.filter fun x => decide (gone x)).length
    ∃ t, exec .alertExpiry s = .next t
      ∧ t.alerts.alerts = s.alerts.alerts.filter (fun x => !decide (gone x))
      ∧ t.alerts.expired = (if count = 0 then s.alerts.expired else min 4294967295 (s.alerts.expired + count))
      ∧ (∀ x ∈ s.alerts.alerts, gone x → ∀ e, x.event = some e →
          ∀ c ∈ t.cat.records, c.id = e → c.kind = .event → c.link = .lost)
      ∧ (count = 0 → t = s)
      ∧ t.port = s.port ∧ t.tb = s.tb ∧ t.front = s.front ∧ t.trig = s.trig ∧ t.store = s.store ∧ t.thermal = s.thermal
      ∧ t.energy = s.energy ∧ t.settings = s.settings ∧ t.pins = s.pins

/-- R134, R115 to R119, R133: ALR.POST. The severity word and one space stand before the text. A text longer than 48 is RANGE. A
MASTER alert of the port in the queue gains a repeat. Otherwise the new one joins where there is room, the others staying as
they are; or, when the queue is full and a lower QUEUED alert stands in it, in place of the QUEUED alert of the lowest severity
with the earliest created uptime, whose record is LOST, the others staying; or it is dropped and FULL is answered. -/
def Obligations.AlrPostQueues : Prop :=
  (∀ (sev : Severity) (text : Text), (∃ c ∈ text, c ≠ ' ') → (∀ c ∈ text, printable c = true) →
    postArgs (' ' :: sev.name.toList ++ ' ' :: text) = some (sev, text))
  ∧ ∀ (s : State) (p : Port) (args : Text) (sev : Severity) (text : Text), CountInv s → s.Takes p →
    postArgs args = some (sev, text) →
    if 48 < text.length then exec (.alrPost p args) s = .next (s.answered p (reply .range "ALR.POST" []))
    else
      match s.alerts.alerts.find? fun x => decide (x.cause = some (.master p)) with
      | some x =>
        exec (.alrPost p args) s =
          .next
            (({ s with
                alerts :=
                  { s.alerts with
                    alerts :=
                      s.alerts.alerts.map fun y =>
                        if y.cause = some (.master p) then { y with repeats := min 255 (y.repeats + 1) } else y } } :
              State).answered p (reply .ok "ALR.POST" [field "id" (natText x.id)]))
      | none =>
        if 16 ≤ s.alerts.alerts.length ∧ ∀ x ∈ s.alerts.alerts, x.transit = none → sev.rank ≤ x.severity.rank then
          exec (.alrPost p args) s =
            .next
              (({ s with alerts := { s.alerts with dropped := min 4294967295 (s.alerts.dropped + 1) } } : State).answered p
                (reply .full "ALR.POST" []))
        else
          ∃ t y, exec (.alrPost p args) s = .next t ∧ y ∈ t.alerts.alerts
            ∧ y.cause = some (.master p) ∧ y.severity = sev ∧ y.text = text ∧ y.created = s.stamp
            ∧ y.createdUptime = s.tb.uptime ∧ y.expiry = s.tb.uptime + s.ttl sev ∧ y.attempts = 0 ∧ y.repeats = 0
            ∧ y.transit = none ∧ y.event = none ∧ y.quake = none ∧ y.id = t.alerts.lastId
            ∧ t.alerts.alerts.length = min 16 (s.alerts.alerts.length + 1)
            ∧ t.alerts.dropped =
                (if s.alerts.alerts.length < 16 then s.alerts.dropped else min 4294967295 (s.alerts.dropped + 1))
            ∧ (s.alerts.alerts.length < 16 →
                t.alerts.alerts.filter (fun x => decide (x.id ≠ y.id)) = s.alerts.alerts ∧ t.cat = s.cat)
            ∧ (16 ≤ s.alerts.alerts.length →
                ∃ v ∈ s.alerts.alerts, v.transit = none ∧ v.severity.rank < sev.rank
                  ∧ (∀ x ∈ s.alerts.alerts, x.transit = none → v.severity.rank ≤ x.severity.rank)
                  ∧ (QueueInv s → ∀ x ∈ s.alerts.alerts, x.transit = none → x.severity = v.severity →
                      v.createdUptime ≤ x.createdUptime)
                  ∧ t.alerts.alerts.filter (fun x => decide (x.id ≠ y.id)) =
                      s.alerts.alerts.filter (fun x => decide (x.id ≠ v.id))
                  ∧ (∀ e, v.event = some e → ∀ c ∈ t.cat.records, c.id = e → c.kind = .event → c.link = .lost))
            ∧ ((∀ x ∈ s.alerts.alerts, x.transit = none) → ∀ q, t.Raised q .alertWaiting)
            ∧ (t.port.get p).state = .responding
            ∧ (t.port.get p).line = reply .ok "ALR.POST" [field "id" (natText y.id)]
            ∧ t.tb = s.tb ∧ t.front = s.front ∧ t.trig = s.trig ∧ t.store = s.store ∧ t.thermal = s.thermal
            ∧ t.energy = s.energy ∧ t.settings = s.settings ∧ t.pins = s.pins

/-! ### Thermal Control (07) -/

/-- R140, R141: the acquisition timer and THM.ACQUIRE. Due, the timer is reloaded with thm.interval from the moment it fell due
(log entry 27), and starts an acquisition, completing 500 ms later, unless one is running; not due, it does nothing (the model's
choice, log entry 2). The command is answered OK, and starts one unless one is running. -/
def Obligations.AcquisitionsStart : Prop :=
  ∀ s : State,
    let started : Thermal :=
      { s.thermal with completes := some (s.thermal.completes.getD (s.tb.osc + 5000000)) }
    exec .acquisitionTimer s =
      .next
        (if s.thermal.timerDue ≤ s.tb.uptime then
          { s with thermal := { started with timerDue := s.thermal.timerDue + s.paramN .thmInterval } }
        else s)
    ∧ ∀ (p : Port) (args : Text), s.Takes p → tokens args = [] →
      exec (.thmAcquire p args) s =
        .next (({ s with thermal := started } : State).answered p (reply .ok "THM.ACQUIRE" []))

/-- R140, R142 to R144, R147 to R150, R4, R180: the completion of an acquisition. Each channel's code is judged, and one that
enters FAULT posts CHANNEL_FAULT; TC and charge-enable are computed from the new readings; the vault check is armed and
disarmed, and a cold vault posts VAULT_COLD; a heater whose channel has read at or above thm.hot thm.hot_count times in a row is
locked out and posts HEATER_LOCKOUT; and both heaters are evaluated, as `State.Evaluated` says. With no acquisition running, or
one that completes after this second, nothing happens (log entry 2); one that completes at the very end of this second comes
after the rollover (log entry 49). -/
def Obligations.AcquisitionCompletes : Prop :=
  ∀ (s : State) (vault osc batt sensor : BitVec 12),
    (s.thermal.completes = none → exec (.acquisitionComplete vault osc batt sensor) s = .next s)
    ∧ ∀ due, s.thermal.completes = some due →
      if s.tb.osc < due ∧ s.tb.endAt ≤ s.tb.raw + (due - s.tb.osc) then
        exec (.acquisitionComplete vault osc batt sensor) s = .next s
      else
        ∃ t, exec (.acquisitionComplete vault osc batt sensor) s = .next t
          ∧ (∀ c : Channel,
            let code := (match c with | .vault => vault | .osc => osc | .batt => batt | .sensor => sensor).toNat
            let old := s.thermal.chan.get c
            if code = 0 ∨ code = 4095 then
              t.thermal.chan.get c =
                { old with
                  last := some .faulty, faulty := min 3 (old.faulty + 1), fault := old.fault || decide (3 ≤ old.faulty + 1) }
              ∧ (old.fault = false → 3 ≤ old.faulty + 1 → s.Posted t (.channelFault c) ∧ ∀ p, t.Raised p .thermal)
            else t.thermal.chan.get c = ⟨some (clampInt (-960) 1120 (thermistor code)), false, 0, some .good⟩)
          ∧ t.thermal.completes = none ∧ t.thermal.latest = some s.tb.uptime ∧ t.thermal.timerDue = s.thermal.timerDue
          ∧ t.thermal.level = s.thermal.level ∧ t.thermal.source = s.thermal.source
          ∧ t.thermal.armed =
              (match t.thermal.chan.vault.last, t.thermal.chan.vault.value with
                | some .good, some x =>
                  if x < s.param .thmVaultCold * 16 then false
                  else if s.param .thmVaultCold * 16 + 32 ≤ x then true
                  else s.thermal.armed
                | _, _ => s.thermal.armed)
          ∧ (s.thermal.armed = true → t.thermal.armed = false → s.Posted t .vaultCold)
          ∧ (let entry := fun k : Nat => s.param (Param.timeParams.getD (12 + k) .timeComp11)
            t.tb =
              { s.tb with
                raw := s.tb.raw + (due - s.tb.osc)
                osc := max s.tb.osc due
                tc :=
                  match t.thermal.chan.osc.value with
                  | none => 0
                  | some x =>
                    if x < -960 then entry 0
                    else if 800 ≤ x then entry 11
                    else
                      let k := (Int.fdiv (x + 960) 160).toNat
                      entry k + Int.tdiv ((entry (k + 1) - entry k) * (x - (160 * (k : Int) - 960))) 160 })
          ∧ t.energy.chargeEnable =
              (s.pins.source && !t.thermal.chan.batt.fault
                && match t.thermal.chan.batt.value with
                  | some x => decide (s.param .pwrChargeMin * 16 ≤ x ∧ x ≤ s.param .pwrChargeMax * 16)
                  | none => false)
          ∧ (∀ h : Heater,
            let c := t.thermal.chan.get (match h with | .batt => .batt | .inst => .sensor)
            let old := s.heater h
            let new := t.heater h
            new.faulted = old.faulted
            ∧ (old.lockout = true →
              new.lockout = true ∧ new.hot = old.hot
              ∧ (new.coolSeen = true ↔
                  old.coolSeen = true ∨ (c.last = some .good ∧ ∃ x, c.value = some x ∧ x ≤ s.param .thmCool * 16)))
            ∧ (old.lockout = false →
              if ∃ x, c.value = some x ∧ c.last = some .good ∧ s.param .thmHot * 16 ≤ x then
                if s.paramN .thmHotCount ≤ old.hot + 1 then
                  new.lockout = true ∧ new.coolSeen = false ∧ new.hot = 0 ∧ new.state.requests = false
                  ∧ s.Posted t (.heaterLockout h) ∧ ∀ p, t.Raised p .thermal
                else new.lockout = false ∧ new.hot = old.hot + 1
              else new.lockout = false ∧ new.hot = if c.last = some .good then 0 else old.hot)
            ∧ t.Evaluated h { old with lockout := new.lockout, coolSeen := new.coolSeen, hot := new.hot })
          ∧ t.front = s.front ∧ t.store = s.store ∧ t.settings = s.settings ∧ t.pins = s.pins

/-- R151: THM.CLEAR. With the latch clear the answer is OK; with no good reading at or below thm.cool since the latch was set it is
STATE; neither changes anything else. Otherwise the latch is cleared, and the heater evaluated: a heater in LOCKOUT with a sound
channel, at a level that does not inhibit it, takes what its thermostat says. -/
def Obligations.ThmClearReleases : Prop :=
  ∀ (s : State) (p : Port) (args : Text) (h : Heater), s.Takes p → tokens args = [h.name.toList] →
    let ok := reply .ok "THM.CLEAR" [field "heater" h.name.toList]
    let r := s.heater h
    if r.lockout = false then exec (.thmClear p args) s = .next (s.answered p ok)
    else if r.coolSeen = false then exec (.thmClear p args) s = .next (s.answered p (reply .state "THM.CLEAR" []))
    else
      ∃ t, exec (.thmClear p args) s = .next t
        ∧ (t.heater h).lockout = false ∧ (t.heater h).coolSeen = false ∧ (t.heater h).hot = 0
        ∧ (t.heater h).faulted = r.faulted
        ∧ (∀ x, r.state = .lockout → r.faulted = false → s.thermal.level = .normal →
            (s.thermal.chan.get (match h with | .batt => .batt | .inst => .sensor)).fault = false →
            (s.thermal.chan.get (match h with | .batt => .batt | .inst => .sensor)).value = some x → r.dwell = none →
            (t.heater h).state =
              if x < s.param (match h with | .batt => .thmBhLow | .inst => .thmIhLow) * 16 then .heating else .heaterOff)
        ∧ (∀ k, k ≠ h → t.heater k = s.heater k)
        ∧ (t.port.get p).state = .responding ∧ (t.port.get p).line = ok
        ∧ t.tb = s.tb ∧ t.front = s.front ∧ t.store = s.store ∧ t.alerts = s.alerts ∧ t.thermal.chan = s.thermal.chan
        ∧ t.settings = s.settings ∧ t.pins = s.pins

/-- R145 to R149, R152: the dwell and phase timers. A dwell timer that falls due stops, and the heater takes its target: FAULTED,
LOCKOUT, INHIBITED, a fallback phase on a channel in FAULT, or what the thermostat says; a change of its request loads the dwell
timer afresh. A phase timer that falls due turns the phase over, or waits for a running dwell timer. A timer that is not due does
nothing (log entry 2). -/
def Obligations.HeaterTimers : Prop :=
  ∀ (s : State) (h : Heater),
    let r := s.heater h
    let chan := s.thermal.chan.get (match h with | .batt => .batt | .inst => .sensor)
    let cold := s.thermal.source = true ∧ s.thermal.chan.batt.fault = false
      ∧ ∃ x, s.thermal.chan.batt.value = some x ∧ x < s.param .pwrChargeMin * 16
    let inhibited := s.thermal.level = .dormant ∨ (s.thermal.level = .critical ∧ (h = .inst ∨ ¬ cold))
    let offset := if s.thermal.level = .conserve then s.param .thmConserveOffset * 16 else 0
    let on := s.param (match h with | .batt => .thmBhLow | .inst => .thmIhLow) * 16 - offset
    let off := s.param (match h with | .batt => .thmBhHigh | .inst => .thmIhHigh) * 16 - offset
    let same := fun t : State => t.tb = s.tb ∧ t.front = s.front ∧ t.store = s.store ∧ t.alerts = s.alerts
      ∧ t.thermal.chan = s.thermal.chan ∧ t.settings = s.settings ∧ t.pins = s.pins ∧ ∀ k, k ≠ h → t.heater k = s.heater k
    ((∀ d, r.dwell = some d → s.tb.uptime < d) → exec (.dwellTimer h) s = .next s)
    ∧ (∀ d, r.dwell = some d → d ≤ s.tb.uptime →
      ∃ t, exec (.dwellTimer h) s = .next t ∧ same t
        ∧ (t.heater h).hot = r.hot ∧ (t.heater h).lockout = r.lockout ∧ (t.heater h).coolSeen = r.coolSeen
        ∧ (t.heater h).faulted = r.faulted
        ∧ (r.faulted = true → (t.heater h).state = .faulted)
        ∧ (r.faulted = false → r.lockout = true → (t.heater h).state = .lockout)
        ∧ (r.faulted = false → r.lockout = false → inhibited → (t.heater h).state = .inhibited)
        ∧ (r.faulted = false → r.lockout = false → ¬ inhibited → chan.fault = true →
            (t.heater h).state =
              match r.state with
              | .heating => .fallbackOn
              | .fallbackOn => if r.phase = .fallen then .fallbackOff else .fallbackOn
              | .fallbackOff => if r.phase = .fallen then .fallbackOn else .fallbackOff
              | .heaterOff | .lockout | .inhibited | .faulted => .fallbackOff)
        ∧ (r.faulted = false → r.lockout = false → ¬ inhibited → chan.fault = false →
            (t.heater h).state =
              match chan.value with
              | none => .heaterOff
              | some x =>
                if r.state.requests then (if off ≤ x then .heaterOff else .heating)
                else if x < on then .heating
                else .heaterOff)
        ∧ (t.heater h).dwell =
            if (t.heater h).state.requests = r.state.requests then none else some (s.tb.uptime + s.paramN .thmDwell))
    ∧ ((∀ d, r.phase = .due d → s.tb.uptime < d) → exec (.phaseTimer h) s = .next s)
    ∧ ∀ d, r.phase = .due d → d ≤ s.tb.uptime → r.faulted = false → r.lockout = false → ¬ inhibited → chan.fault = true →
      r.state = .fallbackOn ∨ r.state = .fallbackOff →
      ∃ t, exec (.phaseTimer h) s = .next t ∧ same t
        ∧ (r.dwell = none →
          (r.state = .fallbackOn →
            (t.heater h).state = .fallbackOff ∧ (t.heater h).phase = .due (s.tb.uptime + 675)
            ∧ (t.heater h).dwell = some (s.tb.uptime + s.paramN .thmDwell))
          ∧ (r.state = .fallbackOff →
            (t.heater h).state = .fallbackOn ∧ (t.heater h).phase = .due (s.tb.uptime + 225)
            ∧ (t.heater h).dwell = some (s.tb.uptime + s.paramN .thmDwell)))
        ∧ (r.dwell ≠ none → t.heater h = { r with phase := .fallen } ∧ t.energy = s.energy)

/-! ### Energy Management (08) -/

/-- R167, R168: the sequencer. With the level determined and no domain RISING, it grants the slot to the first waiting domain of
the fixed order that is eligible: GNSS and MODEM only with AUX ON. The domain enters RISING with its rise timer of 50 ms for AUX
and 200 ms for the others, or enters ON at once where power-good is present. Otherwise there is no grant (log entry 2). -/
def Obligations.SequencerGrants : Prop :=
  ∀ s : State,
    let order : List Domain := [.aux, .sensor, .storage, .gnss, .modem, .heatBatt, .heatInst]
    let ready := fun d : Domain =>
      (s.dom d).state = .waiting ∧ (d = .gnss ∨ d = .modem → s.energy.domain.aux.state = .on)
    (s.energy.level = none ∨ (∃ d, (s.dom d).state = .rising) ∨ (∀ d, ¬ ready d) → exec .sequencerGrant s = .next s)
    ∧ ∀ (before after : List Domain) (d : Domain), s.energy.level ≠ none → (∀ e, (s.dom e).state ≠ .rising) →
      order = before ++ d :: after → (∀ e ∈ before, ¬ ready e) → ready d →
      (s.pins.powerGood.get d = false →
        exec .sequencerGrant s =
          .next
            { s with
              energy :=
                { s.energy with
                  domain :=
                    s.energy.domain.set d
                      { s.dom d with
                        state := .rising, riseDue := some (s.tb.osc + if d = .aux then 500000 else 2000000) } } })
      ∧ (s.pins.powerGood.get d = true → ∃ t, exec .sequencerGrant s = .next t ∧ s.EnteredOn t d ∧ t.pins = s.pins)

/-- R166, R169: power-good is present. A RISING domain enters ON and its dependants are told; in any other state only the input
pin changes. -/
def Obligations.PowerGoodTurnsOn : Prop :=
  ∀ (s : State) (d : Domain),
    let shown : Pins := { s.pins with powerGood := s.pins.powerGood.set d true }
    if (s.dom d).state = .rising then ∃ t, exec (.powerGoodPresent d) s = .next t ∧ s.EnteredOn t d ∧ t.pins = shown
    else exec (.powerGoodPresent d) s = .next { s with pins := shown }

/-- R8, R23, R166, R168 to R171: the faults of a domain. Power-good lost in ON, and the rise timer of a RISING domain, take the
domain to FAULT with the consequences of R170; a fault of GNSS, and of AUX while GNSS is requested and WAITING, RISING or ON
(log entry 28), fails the session, and TIME_CHANGED and DEGRADED follow the clock and the class. In another state only the input
pin changes, or nothing. A rise timer that falls due after this second does nothing yet (log entries 2 and 4); one that falls
due at the very end of this second comes after the rollover (log entry 49). -/
def Obligations.DomainsFault : Prop :=
  ∀ (s : State) (d : Domain),
    let shown : Pins := { s.pins with powerGood := s.pins.powerGood.set d false }
    (if (s.dom d).state = .on then ∃ t, exec (.powerGoodLost d) s = .next t ∧ s.Faulted t d ∧ t.pins = shown
    else exec (.powerGoodLost d) s = .next { s with pins := shown })
    ∧ ((s.dom d).state ≠ .rising → exec (.riseTimer d) s = .next s)
    ∧ ∀ due, (s.dom d).state = .rising → (s.dom d).riseDue = some due →
      if s.tb.osc < due ∧ s.tb.endAt ≤ s.tb.raw + (due - s.tb.osc) then exec (.riseTimer d) s = .next s
      else
        ∃ t, exec (.riseTimer d) s = .next t ∧ s.Faulted t d ∧ t.pins = s.pins
          ∧ t.tb.osc = max s.tb.osc due ∧ t.tb.raw = s.tb.raw + (due - s.tb.osc)

/-- R177, R178: leases end. Every lease whose expiry is at or below the uptime ends EXPIRED and no other does; PWR.RELEASE ends the
issuing port's lease RELEASED, or is MISSING. The holder is told, its last lease end is set, and a domain with no lease left is
dropped, AUX with MODEM unless GNSS is requested. -/
def Obligations.LeasesEnd : Prop :=
  (∀ s : State, ∃ t, exec .leaseExpiry s = .next t
    ∧ (∀ p d, t.energy.leaseOf p d =
        match s.energy.leaseOf p d with
        | some x => if x.expiry ≤ s.tb.uptime then none else some x
        | none => none)
    ∧ (∀ p d x, s.energy.leaseOf p d = some x → x.expiry ≤ s.tb.uptime →
        t.Raised p .leaseEnded
        ∧ ∃ e y, s.energy.leaseOf p e = some y ∧ y.expiry ≤ s.tb.uptime
          ∧ t.energy.lastEnd.get p = some ⟨e, .expired, s.tb.uptime⟩)
    ∧ ((∀ p d x, s.energy.leaseOf p d = some x → s.tb.uptime < x.expiry) → t = s)
    ∧ t.tb = s.tb ∧ t.front = s.front ∧ t.trig = s.trig ∧ t.store = s.store ∧ t.alerts = s.alerts ∧ t.thermal = s.thermal
    ∧ t.settings = s.settings ∧ t.pins = s.pins)
  ∧ ∀ (s : State) (p : Port) (args : Text) (d : Domain), RequestInv s → s.Takes p → tokens args = [d.name.toList] →
    match leasable d with
    | none => exec (.pwrRelease p args) s = .next (s.answered p (reply .range "PWR.RELEASE" []))
    | some k =>
      match s.energy.leaseOf p k with
      | none => exec (.pwrRelease p args) s = .next (s.answered p (reply .missing "PWR.RELEASE" []))
      | some _ =>
        ∃ t, exec (.pwrRelease p args) s = .next t
          ∧ t.energy =
              { s.energy.setLease p k none with
                lastEnd := s.energy.lastEnd.set p (some ⟨k, .released, s.tb.uptime⟩)
                domain :=
                  if (s.energy.leaseOf p.other k).isSome then s.energy.domain
                  else
                    match k with
                    | .storage => { s.energy.domain with storage := s.energy.domain.storage.dropped }
                    | .modem =>
                      { s.energy.domain with
                        modem := s.energy.domain.modem.dropped
                        aux :=
                          if s.energy.domain.gnss.requested then s.energy.domain.aux
                          else s.energy.domain.aux.dropped } }
          ∧ t.Raised p .leaseEnded ∧ (t.port.get p).state = .responding
          ∧ (t.port.get p).line = reply .ok "PWR.RELEASE" [field "domain" d.name.toList]
          ∧ t.port.get p.other = s.port.get p.other
          ∧ t.tb = s.tb ∧ t.front = s.front ∧ t.trig = s.trig ∧ t.store = s.store ∧ t.alerts = s.alerts
          ∧ t.thermal = s.thermal ∧ t.settings = s.settings ∧ t.pins = s.pins

/-- R180, R146: the charge-source input changes. The Thermal Unit is told and evaluates the BATT heater, and charge-enable follows
the source, the BATT channel and its bounds. An input shown as it already stands changes nothing. -/
def Obligations.ChargeSourceFollows : Prop :=
  ∀ (s : State) (present : Bool),
    if s.pins.source = present then exec (.chargeSourceChange present) s = .next s
    else
      ∃ t, exec (.chargeSourceChange present) s = .next t
        ∧ t.pins = { s.pins with source := present } ∧ t.thermal.source = present
        ∧ t.energy.chargeEnable =
            (present && !s.thermal.chan.batt.fault
              && match s.thermal.chan.batt.value with
                | some x => decide (s.param .pwrChargeMin * 16 ≤ x ∧ x ≤ s.param .pwrChargeMax * 16)
                | none => false)
        ∧ (s.thermal.level = .critical → (s.heater .batt).faulted = false → (s.heater .batt).lockout = false →
            present = false → (t.heater .batt).state = .inhibited)
        ∧ t.heater .inst = s.heater .inst ∧ t.thermal.chan = s.thermal.chan ∧ t.thermal.level = s.thermal.level
        ∧ t.port = s.port ∧ t.tb = s.tb ∧ t.front = s.front ∧ t.store = s.store ∧ t.alerts = s.alerts
        ∧ t.settings = s.settings

/-- R174 to R176: PWR.LEASE. A domain other than MODEM or STORAGE is RANGE; an undetermined level is LEVEL; a domain in FAULT, or
MODEM with AUX in FAULT, is STATE; a level that allows no such lease is LEVEL. Otherwise the lease of the port's key is set, with
the seconds held to 10..3,600 and then to the level's maximum, and the domain is requested, AUX with MODEM. -/
def Obligations.PwrLeaseGrants : Prop :=
  ∀ (s : State) (p : Port) (args a : Text) (d : Domain) (n : Int) (u : Purpose), RequestInv s → s.Takes p →
    tokens args = [d.name.toList, a, u.name.toList] → numberToken a = some n →
    let answer := fun st => exec (.pwrLease p args) s =
      .next (s.answered p (reply st "PWR.LEASE" [field "domain" d.name.toList]))
    match leasable d with
    | none => answer .range
    | some k =>
      if s.energy.level = none then answer .level
      else if (s.dom d).state = .fault ∨ (d = .modem ∧ s.energy.domain.aux.state = .fault) then answer .state
      else
        let most : Option Nat :=
          match s.energy.level, k, u with
          | some .normal, _, _ => some 3600
          | some .conserve, .modem, .routine => some 300
          | some .conserve, .modem, .alert => some 3600
          | some .conserve, .storage, _ => some 600
          | some .critical, .modem, .alert => if ∃ x ∈ s.alerts.alerts, x.severity ≠ .routine then some 300 else none
          | some .critical, .storage, _ => some 120
          | _, _, _ => none
        match most with
        | none => answer .level
        | some m =>
          let g := min m (clampInt 10 3600 n).toNat
          exec (.pwrLease p args) s =
            .next
              (({ s with
                  energy :=
                    { s.energy.setLease p k (some ⟨u, g, s.tb.uptime, s.tb.uptime + g⟩) with
                      domain :=
                        match k with
                        | .storage => { s.energy.domain with storage := s.energy.domain.storage.asked }
                        | .modem =>
                          { s.energy.domain with
                            modem := s.energy.domain.modem.asked, aux := s.energy.domain.aux.asked } } } : State).answered p
                (reply (if (g : Int) = n then .ok else .clamped) "PWR.LEASE"
                  [field "domain" d.name.toList, field "granted" (natText g), field "expiry" (natText (s.tb.uptime + g))]))

/-- R166, R172: PWR.CLEAR. A domain not in FAULT is STATE. One in FAULT goes OFF, and WAITING where it is requested and not held
OFF; the faulted latch of a heater clears. -/
def Obligations.PwrClearRestores : Prop :=
  ∀ (s : State) (p : Port) (args : Text) (d : Domain), s.Takes p → tokens args = [d.name.toList] →
    let ok := reply .ok "PWR.CLEAR" [field "domain" d.name.toList]
    ((s.dom d).state ≠ .fault → exec (.pwrClear p args) s = .next (s.answered p (reply .state "PWR.CLEAR" [])))
    ∧ ((s.dom d).state = .fault → d ≠ .heatBatt → d ≠ .heatInst →
      exec (.pwrClear p args) s =
        .next
          (({ s with
              energy :=
                { s.energy with
                  domain :=
                    s.energy.domain.set d
                      { s.dom d with state := if (s.dom d).requested then .waiting else .off } } } : State).answered p ok))
    ∧ ∀ h : Heater, (s.dom d).state = .fault → d = (match h with | .batt => .heatBatt | .inst => .heatInst) →
      ∃ t, exec (.pwrClear p args) s = .next t
        ∧ (t.heater h).faulted = false ∧ (t.heater h).lockout = (s.heater h).lockout
        ∧ (t.dom d).state = (if (t.dom d).requested = true ∧ s.energy.level ≠ some .dormant then .waiting else .off)
        ∧ (t.port.get p).state = .responding ∧ (t.port.get p).line = ok
        ∧ t.tb = s.tb ∧ t.front = s.front ∧ t.store = s.store ∧ t.alerts = s.alerts ∧ t.thermal.chan = s.thermal.chan
        ∧ t.settings = s.settings ∧ t.pins = s.pins

/-! ### The Master Ports (09) -/

/-- R109, R186, R191, R192, R211: the end of output. The last character of a response, or of an owed BUSY line, takes the port
on: to CLEARING while a BUSY line is owed, else to READY, where a new speed comes into force and skipping is set for part of a
line, a mark included (log entry 13). A response ends only when no set of a read is still to fetch, and there the read ends and
its pin is released, so that the pin lasts as long as the port is occupied with the read (log entry 21). A sent RESTART answer
counts in the restarts due (log entry 26). In another state of the port nothing happens (log entry 2). -/
def Obligations.OutputEnds : Prop :=
  ∀ (s : State) (p : Port),
    let r := s.port.get p
    let speed := s.paramN (baudParam p)
    exec (.responseSent p) s =
      .next
        (if r.state = .responding ∧ ∀ x, s.store.reads.get p = some x → x.left = 0 then
          { s with
            store := { s.store with reads := s.store.reads.set p none }
            cat :=
              match s.store.reads.get p with
              | some x =>
                { s.cat with
                  records := s.cat.records.map fun c => if c.id = x.record then { c with pins := c.pins - 1 } else c }
              | none => s.cat
            port := s.port.set p (({ r with restartWaits := false } : PortRec).sent speed)
            restartsDue := s.restartsDue + r.restartWaits.toNat }
        else s)
    ∧ exec (.busyLineSent p) s =
      .next
        (if r.state = .clearing then
          { s with port := s.port.set p (({ r with owed := r.owed - 1 } : PortRec).sent speed) }
        else s)

/-- R198: ATT.READ. -/
def Obligations.AttReadTakesCause : Prop :=
  ∀ (s : State) (p : Port) (args : Text), s.Takes p → tokens args = [] →
    match (s.port.get p).presented with
    | none =>
      exec (.attRead p args) s =
        .next (s.answered p (reply .ok "ATT.READ" [field "cause" "NONE".toList, field "pending" (natText 0)]))
    | some c =>
      let rest := (s.port.get p).pending.filter fun x => decide (x ≠ c)
      ∃ next : Option Attn,
        ((rest = [] ∧ next = none) ∨ ∃ d ∈ rest, next = some d ∧ ∀ e ∈ rest, d.priority ≤ e.priority)
        ∧ exec (.attRead p args) s =
          .next
            { s with
              port :=
                s.port.set p
                  { (s.port.get p).emptied with
                    pending := rest
                    presented := next
                    state := .responding
                    line := reply .ok "ATT.READ" [field "cause" c.name.toList, field "pending" (natText rest.length)]
                    payload := [] } }

/-- R187 to R192, R195: characters. One that is no terminator joins the buffer up to 120 characters; a framing error or an
unprintable one marks the line BAD, and one too many OVERLONG; after a BAD mark the characters that may stand in a line join the
buffer still (log entry 50). The LF of a CR LF does nothing, even with a framing error and where the CR ended no line (R187
against R188: log entry 12), and the terminator of what is skipped ends the skipping. A line completed while a response goes out
is discarded and owed BUSY. A marked line is SYNTAX. An unmarked line completed in READY, by CR or LF, is answered with the
digest when it is empty and UNKNOWN when its word is none; a line that LF ends, whatever spaces stand before its word, does what
the row of its command word does with the rest of the line (log entries 11 and 12). -/
def Obligations.CharactersMakeLines : Prop :=
  ∀ (s : State) (p : Port) (c : Byte) (framing : Bool) (e : Ending),
    let r := s.port.get p
    let put := fun x : PortRec => ({ s with port := s.port.set p x } : State)
    (c.toNat ≠ 13 → c.toNat ≠ 10 →
      exec (.characterReceived p c ⟨framing, e⟩) s =
        .next
          (put
            (if r.skipping then { r with afterCr := false }
            else
              let bad := framing = true ∨ c.toNat < 32 ∨ 126 < c.toNat
              let full := 120 ≤ r.buffer.length
              { r with
                afterCr := false
                bad := r.bad || decide bad
                overlong := r.overlong || decide full
                buffer := if bad ∨ full then r.buffer else r.buffer ++ [Char.ofNat c.toNat] })))
    ∧ (c.toNat = 10 → r.afterCr = true →
      exec (.characterReceived p c ⟨framing, e⟩) s = .next (put { r with afterCr := false }))
    ∧ (c.toNat = 13 ∨ (c.toNat = 10 ∧ r.afterCr = false) →
      (r.skipping = true →
        exec (.characterReceived p c ⟨framing, e⟩) s = .next (put { r with skipping := false, afterCr := decide (c.toNat = 13) }))
      ∧ (r.skipping = false → r.state ≠ .ready →
        exec (.characterReceived p c ⟨framing, e⟩) s =
          .next (put { r.emptied with owed := min 16 (r.owed + 1), afterCr := decide (c.toNat = 13) }))
      ∧ (s.Takes p → r.bad = true ∨ r.overlong = true ∨ framing = true →
        exec (.characterReceived p c ⟨framing, e⟩) s =
          .next
            (put
              { r.emptied with
                state := .responding, line := "SYNTAX".toList ++ crlf, payload := [],
                afterCr := decide (c.toNat = 13) })))
    ∧ (s.Takes p → c.toNat = 10 → framing = false → r.afterCr = false → r.bad = false → r.overlong = false →
      (tokens r.buffer = [] → exec (.characterReceived p c ⟨framing, e⟩) s = exec (.statusDigest p) s)
      ∧ (∀ w rest, tokens r.buffer = w :: rest → (∀ x ∈ commandTable e, x.1.toList ≠ w) →
        exec (.characterReceived p c ⟨framing, e⟩) s = exec (.unknownCommandWord p) s)
      ∧ ∀ (k : Nat) (args : Text), args = [] ∨ (∃ u, args = ' ' :: u) →
        ∀ row ∈ ([("ATT.READ", .attRead), ("TIME.SET", fun q a => .timeSet q ⟨a, e⟩), ("TIME.SESSION", .timeSession),
            ("TIME.READ", .timeRead), ("SMP.READ", .smpRead), ("TRIG.READ", .trigRead), ("EVT.LIST", .evtList), ("EVT.READ", .evtRead),
            ("EVT.RELEASE", .evtRelease), ("WAV.CAPTURE", .wavCapture), ("WAV.READ", .wavRead),
            ("WAV.STATUS", .wavStatus), ("ALR.FETCH", .alrFetch), ("ALR.RESULT", .alrResult), ("ALR.POST", .alrPost),
            ("ALR.LIST", .alrList), ("THM.ACQUIRE", .thmAcquire), ("THM.READ", .thmRead), ("THM.CLEAR", .thmClear),
            ("PWR.LEASE", .pwrLease), ("PWR.RELEASE", .pwrRelease), ("PWR.CLEAR", .pwrClear), ("PWR.READ", .pwrRead),
            ("SET", .setParam), ("GET", .getParam), ("SAVE", .save), ("IDENT", .ident), ("RESTART", .restart)] :
            List (String × (Port → Text → Instr))),
          r.buffer = List.replicate k ' ' ++ row.1.toList ++ args →
          exec (.characterReceived p c ⟨framing, e⟩) s = exec (row.2 p args) s)
    ∧ (s.Takes p → c.toNat = 13 → framing = false → r.bad = false → r.overlong = false →
      let ends := fun i : Instr => ∃ t, exec i s = .next t
        ∧ exec (.characterReceived p c ⟨framing, e⟩) s =
          .next { t with port := t.port.set p { t.port.get p with afterCr := true } }
      (tokens r.buffer = [] → ends (.statusDigest p))
      ∧ ∀ w rest, tokens r.buffer = w :: rest → (∀ x ∈ commandTable e, x.1.toList ≠ w) → ends (.unknownCommandWord p))

/-- R187, R192: a line completed while the port answers another, or skips. It is discarded whatever it says: a BUSY line is
owed, up to 16, or the skipping ends (a row stands for a whole line, terminator included: log entry 11); nothing else of the
part changes. The command LINE DISCARDED in READY is no event (log entry 2). -/
def Obligations.BusyLinesDiscarded : Prop :=
  (∀ (s : State) (p : Port) (c : Instr), c.linePort = some p → (s.port.get p).state ≠ .ready →
    exec c s =
      .next
        { s with
          port :=
            s.port.set p
              (if (s.port.get p).skipping then { s.port.get p with skipping := false, afterCr := false }
              else { (s.port.get p).emptied with owed := min 16 ((s.port.get p).owed + 1) }) })
  ∧ (∀ (s : State) (p : Port) (c : Instr), c.linePort = some p → c ≠ .lineDiscarded p → (s.port.get p).skipping = true →
    exec c s = .next { s with port := s.port.set p { s.port.get p with skipping := false, afterCr := false } })
  ∧ ∀ (s : State) (p : Port), (s.port.get p).state = .ready → exec (.lineDiscarded p) s = .next s

/-- R25, R40, R69, R89, R90, R110, R135, R154, R181, R188, R189, R195, R207, R210: the commands that read. They answer with what
the block holds, or say why they do not, and change nothing but the port. The points that THM.READ writes are those of the
working table at the read (log entry 46), and its values are in 1/16 °C as 7.1 and R154 have them (log entry 51). -/
def Obligations.ReadsChangeNothing : Prop :=
  ∀ (s : State) (p : Port) (args : Text), s.Takes p →
    (tokens args = [] →
      exec (.timeRead p args) s = .next (s.answered p (reply .ok "TIME.READ" s.timeFields))
      ∧ exec (.smpRead p args) s = .next (s.answered p (reply .ok "SMP.READ" s.smpFields))
      ∧ exec (.trigRead p args) s = .next (s.answered p (reply .ok "TRIG.READ" s.trigFields))
      ∧ exec (.evtList p args) s = .next (s.answered p (reply .ok "EVT.LIST" s.cat.fields))
      ∧ exec (.wavStatus p args) s = .next (s.answered p (reply .ok "WAV.STATUS" s.store.fields))
      ∧ exec (.alrList p args) s = .next (s.answered p (reply .ok "ALR.LIST" s.alerts.fields))
      ∧ exec (.thmRead p args) s = .next (s.answered p (reply .ok "THM.READ" s.thmFields))
      ∧ exec (.pwrRead p args) s = .next (s.answered p (reply .ok "PWR.READ" s.pwrFields))
      ∧ exec (.ident p args) s =
          .next
            (s.answered p
              (reply .ok "IDENT"
                [field "part" "JC3610".toList, field "family" "Jecran".toList, field "revision" "2".toList,
                  field "store" (if s.settings.saving = none then "IDLE".toList else "SAVING".toList),
                  field "copy" (if s.settings.valid then "VALID".toList else "NOT_VALID".toList),
                  field "differs"
                    (if s.settings.valid = true ∧ s.settings.saving = none ∧ s.settings.working = s.settings.stored then
                      "SAME".toList
                    else "DIFFERS".toList)])))
    ∧ (∀ n : Int, numberArgs (tokens args) = some [n] →
      exec (.evtRead p args) s =
        .next
          (s.answered p
            (if n < 1 ∨ 65535 < n then reply .range "EVT.READ" []
            else
              match s.cat.records.find? fun r => decide (r.id = n.toNat) with
              | some r => reply .ok "EVT.READ" r.fields
              | none => reply .missing "EVT.READ" [])))
    ∧ (∀ w : Text, tokens args = [w] →
      (∀ q : Param, w = q.row.name.toList →
        exec (.getParam p args) s =
          .next
            (s.answered p
              (reply .ok "GET"
                [field q.row.name (intText (s.param q)),
                  field "stored"
                    (if s.settings.valid = true ∧ s.settings.saving = none then intText (s.settings.stored.get q)
                    else ['*'])])))
      ∧ ((∀ q : Param, w ≠ q.row.name.toList) →
        exec (.getParam p args) s = .next (s.answered p ("UNKNOWN".toList ++ crlf))))
    ∧ exec (.markedLine p) s = .next (s.answered p ("SYNTAX".toList ++ crlf))
    ∧ exec (.unknownCommandWord p) s = .next (s.answered p ("UNKNOWN".toList ++ crlf))
    ∧ exec (.statusDigest p) s =
        .next
          (s.answered p
            (reply .ok "DIGEST"
              [field "level" ((s.energy.level.map fun l => l.name.toList).getD "UNDETERMINED".toList),
                field "clock" s.tb.clock.name.toList, field "class" s.tb.cls.name.toList,
                field "station" s.trig.station.name.toList, field "alerts" (natText s.alerts.alerts.length),
                field "transit"
                  (match s.alerts.alerts.find? fun x => x.transit.isSome with
                    | some x => (x.transit.map fun q => q.name.toList).getD "NONE".toList
                    | none => "NONE".toList),
                field "free" (natText s.store.free.length), field "records" (natText s.cat.records.length)]))

/-- R127, R134, R151, R172, R174, R178, R190: the form of a command. A line whose arguments are too many or too few, whose
number is no number, or whose word is none of those the command knows, is answered SYNTAX under its command word, and nothing
else changes. That SYNTAX to PWR.LEASE carries no field is the model's choice (log entry 32). -/
def Obligations.WrongFormIsSyntax : Prop :=
  ∀ (s : State) (p : Port) (args : Text), s.Takes p →
    (tokens args ≠ [] →
      ∀ row ∈ ([("ATT.READ", .attRead), ("TIME.SESSION", .timeSession), ("TIME.READ", .timeRead), ("SMP.READ", .smpRead),
          ("TRIG.READ", .trigRead), ("EVT.LIST", .evtList), ("WAV.STATUS", .wavStatus), ("ALR.FETCH", .alrFetch),
          ("ALR.LIST", .alrList), ("THM.ACQUIRE", .thmAcquire), ("THM.READ", .thmRead), ("PWR.READ", .pwrRead),
          ("SAVE", .save), ("IDENT", .ident), ("RESTART", .restart)] : List (String × (Port → Text → Instr))),
        exec (row.2 p args) s = .next (s.answered p (reply .badSyntax row.1 [])))
    ∧ (∀ e : Ending, ∀ row ∈ ([("TIME.SET", 3, fun q a => .timeSet q ⟨a, e⟩), ("EVT.READ", 1, .evtRead), ("EVT.RELEASE", 1, .evtRelease),
          ("WAV.CAPTURE", 2, .wavCapture), ("WAV.READ", 4, .wavRead)] : List (String × Nat × (Port → Text → Instr))),
        (tokens args).length ≠ row.2.1 ∨ (∃ t ∈ tokens args, numberToken t = none) →
        exec (row.2.2 p args) s = .next (s.answered p (reply .badSyntax row.1 [])))
    ∧ (∀ row ∈ ([("ALR.RESULT", 2, .alrResult), ("THM.CLEAR", 1, .thmClear), ("PWR.LEASE", 3, .pwrLease),
          ("PWR.RELEASE", 1, .pwrRelease), ("PWR.CLEAR", 1, .pwrClear), ("SET", 2, .setParam), ("GET", 1, .getParam)] :
          List (String × Nat × (Port → Text → Instr))),
        (tokens args).length ≠ row.2.1 → exec (row.2.2 p args) s = .next (s.answered p (reply .badSyntax row.1 [])))
    ∧ (∀ a b, tokens args = [a, b] → numberToken a = none ∨ resultWord b = none →
      exec (.alrResult p args) s = .next (s.answered p (reply .badSyntax "ALR.RESULT" [])))
    ∧ (∀ a b, tokens args = [a, b] → numberToken b = none →
      exec (.setParam p args) s = .next (s.answered p (reply .badSyntax "SET" [])))
    ∧ (∀ a b c, tokens args = [a, b, c] → domainWord a = none ∨ numberToken b = none ∨ purposeWord c = none →
      exec (.pwrLease p args) s = .next (s.answered p (reply .badSyntax "PWR.LEASE" [])))
    ∧ (∀ a, tokens args = [a] → domainWord a = none →
      exec (.pwrRelease p args) s = .next (s.answered p (reply .badSyntax "PWR.RELEASE" []))
      ∧ exec (.pwrClear p args) s = .next (s.answered p (reply .badSyntax "PWR.CLEAR" [])))
    ∧ (∀ a, tokens args = [a] → heaterWord a = none →
      exec (.thmClear p args) s = .next (s.answered p (reply .badSyntax "THM.CLEAR" [])))
    ∧ (postArgs args = none → exec (.alrPost p args) s = .next (s.answered p (reply .badSyntax "ALR.POST" [])))

/-! ### Settings (10) and the restarts -/

/-- R4, R53, R57, R58, R63, R66, R182, R186, R190, R204 to R206, R213: SET. The value is limited to the parameter's range; a
partner that a relation would no longer allow is moved, to the end of its range at most, and then the value is limited; every
other parameter stays. The answer carries what was written, then what was moved, in the order moved, CLAMPED when that is not
what was asked; a partner whose value stays has not been moved (log entry 32). SETTINGS_CHANGED is raised toward the other port.
What follows of the new table is done at once: TC is formed of the new compensation values; trig.enable 0 suspends the station
and 1 ends ENABLE_OFF, the components then priming; a change of a constant of the detector primes them; where either ends an
event, that closes with INTERRUPTED at the newest set, as `State.Closed` says; a pending speed of a port that is READY comes
into force (log entry 20); a change of pwr.capacity is noted for the measurement (log entry 30). A name that is no parameter is
UNKNOWN. -/
def Obligations.SetWritesTable : Prop :=
  ∀ (s : State) (p : Port) (args name value : Text) (v : Int), s.Takes p → tokens args = [name, value] →
    numberToken value = some v →
    ((∀ q : Param, name ≠ q.row.name.toList) →
      exec (.setParam p args) s = .next (s.answered p ("UNKNOWN".toList ++ crlf)))
    ∧ ∀ q : Param, name = q.row.name.toList → TableInv s.settings.working →
      ∃ t, exec (.setParam p args) s = .next t
        ∧ (∀ r ∈ relations,
          (q = r.upper →
            t.param q = max (q.limit v) (r.lower.low + r.gap) ∧ t.param r.lower = min (s.param r.lower) (t.param q - r.gap))
          ∧ (q = r.lower →
            t.param q = min (q.limit v) (r.upper.high - r.gap)
            ∧ t.param r.upper = max (s.param r.upper) (t.param q + r.gap)))
        ∧ ((∀ r ∈ relations, q ≠ r.upper ∧ q ≠ r.lower) → t.param q = q.limit v)
        ∧ (q = .pwrConserve → t.param .pwrDormant = min (s.param .pwrDormant) (t.param .pwrCritical - 5))
        ∧ (q = .pwrDormant → t.param .pwrConserve = max (s.param .pwrConserve) (t.param .pwrCritical + 5))
        ∧ (∀ x, x ≠ q → ¬ (q = .pwrConserve ∧ x = .pwrDormant) → ¬ (q = .pwrDormant ∧ x = .pwrConserve) →
            (∀ r ∈ relations, ¬ (q = r.upper ∧ x = r.lower) ∧ ¬ (q = r.lower ∧ x = r.upper)) → t.param x = s.param x)
        ∧ t.settings = { s.settings with working := t.settings.working }
        ∧ (∃ moved : List Param, moved.Nodup ∧ (∀ x, x ∈ moved ↔ x ≠ q ∧ t.param x ≠ s.param x)
            ∧ (q = .pwrConserve → moved.Sublist [.pwrCritical, .pwrDormant])
            ∧ (q = .pwrDormant → moved.Sublist [.pwrCritical, .pwrConserve])
            ∧ (t.port.get p).line =
              reply (if t.param q = v ∧ moved = [] then .ok else .clamped) "SET"
                (field q.row.name (intText (t.param q)) :: moved.map fun x => field x.row.name (intText (t.param x))))
        ∧ (t.port.get p).state = .responding ∧ (t.port.get p).speed = (s.port.get p).speed
        ∧ t.Raised p.other .settingsChanged
        ∧ ((s.port.get p.other).state = .ready → ((t.port.get p.other).speed : Int) = t.param (baudParam p.other))
        ∧ (q ∉ Param.timeParams.drop 12 → t.tb = s.tb)
        ∧ (q ∈ Param.timeParams.drop 12 →
            let entry := fun k : Nat => t.param (Param.timeParams.getD (12 + k) .timeComp11)
            t.tb =
              { s.tb with
                tc :=
                  match s.thermal.chan.osc.value with
                  | none => 0
                  | some x =>
                    if x < -960 then entry 0
                    else if 800 ≤ x then entry 11
                    else
                      let k := (Int.fdiv (x + 960) 160).toNat
                      entry k + Int.tdiv ((entry (k + 1) - entry k) * (x - (160 * (k : Int) - 960))) 160 })
        ∧ t.energy =
            { s.energy with
              capacityChanged := s.energy.capacityChanged || decide (t.param .pwrCapacity ≠ s.param .pwrCapacity)
              chargeEnable := t.energy.chargeEnable }
        ∧ (q ≠ .pwrChargeMin → q ≠ .pwrChargeMax → t.energy.chargeEnable = s.energy.chargeEnable)
        ∧ (q = .pwrChargeMin ∨ q = .pwrChargeMax →
            t.energy.chargeEnable =
              (s.pins.source && !s.thermal.chan.batt.fault
                && match s.thermal.chan.batt.value with
                  | some x => decide (t.param .pwrChargeMin * 16 ≤ x ∧ x ≤ t.param .pwrChargeMax * 16)
                  | none => false))
        ∧ (q ∉ [.trigEnable, .trigDcShift, .trigStaShift, .trigLtaShift] →
            t.trig = s.trig ∧ t.store = s.store ∧ t.cat = s.cat ∧ t.alerts = s.alerts)
        ∧ (let primed : PerAxis Comp :=
              s.trig.comp.map fun c =>
                { c with
                  state := .priming, priming := 0, firstPending := true, run := 0, below := 0, candidate := none,
                  onset := none, q := none }
            let stop := fun c : EventCtx => match s.front.ring with | [] => c.openIndex | y :: _ => y.index
            (q = .trigEnable → v ≤ 0 →
              t.trig =
                (if s.trig.station = .suspended then { s.trig with causes := { s.trig.causes with enableOff := true } }
                else
                  { s.trig with
                    causes := { s.trig.causes with enableOff := true }, station := .suspended, event := none,
                    countdown := none })
              ∧ (s.trig.station ≠ .suspended → ∀ c, s.trig.event = some c → s.Closed t c (stop c) false true))
            ∧ (q = .trigEnable → 0 < v →
              t.trig =
                if s.trig.causes = ⟨true, false, false⟩ then
                  { s.trig with causes := ⟨false, false, false⟩, station := .quiet, comp := primed }
                else { s.trig with causes := { s.trig.causes with enableOff := false } })
            ∧ (t.param .trigDcShift ≠ s.param .trigDcShift ∨ t.param .trigStaShift ≠ s.param .trigStaShift
                ∨ t.param .trigLtaShift ≠ s.param .trigLtaShift →
              t.trig =
                (if s.trig.event = none then { s.trig with comp := primed }
                else { s.trig with station := .quiet, event := none, countdown := none, comp := primed })
              ∧ ∀ c, s.trig.event = some c → s.Closed t c (stop c) false true))
        ∧ t.front = s.front ∧ t.thermal = s.thermal ∧ t.pins = s.pins

/-- R208: SAVE and the end of its write. With no write in progress SAVE_WRITE_END is no event and changes nothing, which is the
model's choice (log entry 2). -/
def Obligations.SaveWritesCopy : Prop :=
  (∀ (s : State) (p : Port) (args : Text), s.Takes p → tokens args = [] →
    exec (.save p args) s =
      .next
        (match s.settings.saving with
          | some _ => s.answered p (reply .busy "SAVE" [])
          | none =>
            ({ s with settings := { s.settings with saving := some s.settings.working, marker := false } } : State).answered p
              (reply .ok "SAVE" [])))
  ∧ ∀ s : State,
    exec .saveWriteEnd s =
      .next
        (match s.settings.saving with
          | some u =>
            { s with
              settings := { s.settings with stored := u, sum := Config.sumCheck u, marker := true, saving := none } }
          | none => s)

/-- R211 with R8, R23, R27, R42, R71, R93, R112, R113, R139, R157, R184, R200, R201: the restarts. RESTART is answered OK and
waits for its answer to be sent; each answer sent makes one restart, at the row WARM_RESTART, and a restart leaves the others
due as they are (log entry 26). The RESET input makes one at each assertion, and none while it is held. A capture burst stops
after the sets it has written, the job it is of and how many they are being free values (log entry 45), the jobs are aborted
with their outcomes, and the OPEN record closes INTERRUPTED. TIME_CHANGED and DEGRADED follow the clock and the class. What was
presented is presented anew, where RESTARTED is not routed as log entry 26 has it; skipping is set for part of a line, a mark
included (log entry 13). A warm restart nobody asked for is no event (log entry 2). -/
def Obligations.RestartsReachAll : Prop :=
  (∀ (s : State) (p : Port) (args : Text), s.Takes p → tokens args = [] →
    exec (.restart p args) s =
      .next
        { s with
          port :=
            s.port.set p
              { (s.port.get p).emptied with
                state := .responding, line := reply .ok "RESTART" [], payload := [], restartWaits := true } })
  ∧ ∀ s : State, CountInv s →
    let entry := Config.stoppedJob s.draws
    let written := Config.stoppedBurst s.draws
    (s.restartsDue = 0 → exec .warmRestart s = .next s)
    ∧ (∀ n, s.restartsDue = n + 1 →
      ∃ t, exec .warmRestart s = .next t ∧ s.WarmRestarted t entry written ∧ t.pins = s.pins ∧ t.restartsDue = n
        ∧ t.draws = s.draws + 1)
    ∧ (∀ b, b = false ∨ s.pins.reset = true →
      exec (.resetInput b) s = .next { s with pins := { s.pins with reset := b } })
    ∧ (s.pins.reset = false →
      ∃ t, exec (.resetInput true) s = .next t ∧ s.WarmRestarted t entry written
        ∧ t.pins = { s.pins with reset := true } ∧ t.restartsDue = s.restartsDue
        ∧ t.draws = s.draws + 1)
end

