-- ==== Sys2Proof/Laws/FrameBasic.lean ====
section
/-! SUPPORT. Which parts of the state the operations of raising attention, responses, the Alert Queue and the Event Catalogue leave as they are: one
lemma for each operation and each part of the state, so that no proof unfolds an operation to learn what it does not touch. -/

namespace Sys2Proof.Machine

set_option Elab.async false

open Sys2Proof

@[simp] theorem State.raise_tb (s : State) (p : Port) (c : Attn) : (s.raise p c).tb = s.tb := by
  rfl

@[simp] theorem State.raise_trig (s : State) (p : Port) (c : Attn) : (s.raise p c).trig = s.trig := by
  rfl

@[simp] theorem State.raise_thermal (s : State) (p : Port) (c : Attn) : (s.raise p c).thermal = s.thermal := by
  rfl

@[simp] theorem State.raise_energy (s : State) (p : Port) (c : Attn) : (s.raise p c).energy = s.energy := by
  rfl

@[simp] theorem State.raise_settings (s : State) (p : Port) (c : Attn) : (s.raise p c).settings = s.settings := by
  rfl

@[simp] theorem State.raise_pins (s : State) (p : Port) (c : Attn) : (s.raise p c).pins = s.pins := by
  rfl

@[simp] theorem State.raise_pending (s : State) (p : Port) (c : Attn) : (s.raise p c).pending = s.pending := by
  rfl

@[simp] theorem State.raise_front (s : State) (p : Port) (c : Attn) : (s.raise p c).front = s.front := by
  rfl

@[simp] theorem State.raise_store (s : State) (p : Port) (c : Attn) : (s.raise p c).store = s.store := by
  rfl

@[simp] theorem State.raise_alerts (s : State) (p : Port) (c : Attn) : (s.raise p c).alerts = s.alerts := by
  rfl

@[simp] theorem State.raise_cat (s : State) (p : Port) (c : Attn) : (s.raise p c).cat = s.cat := by
  rfl

@[simp] theorem State.raise_restartsDue (s : State) (p : Port) (c : Attn) : (s.raise p c).restartsDue = s.restartsDue := by
  rfl

@[simp] theorem State.raise_draws (s : State) (p : Port) (c : Attn) : (s.raise p c).draws = s.draws := by
  rfl

@[simp] theorem State.raiseBoth_tb (s : State) (c : Attn) : (s.raiseBoth c).tb = s.tb := by
  rfl

@[simp] theorem State.raiseBoth_trig (s : State) (c : Attn) : (s.raiseBoth c).trig = s.trig := by
  rfl

@[simp] theorem State.raiseBoth_thermal (s : State) (c : Attn) : (s.raiseBoth c).thermal = s.thermal := by
  rfl

@[simp] theorem State.raiseBoth_energy (s : State) (c : Attn) : (s.raiseBoth c).energy = s.energy := by
  rfl

@[simp] theorem State.raiseBoth_settings (s : State) (c : Attn) : (s.raiseBoth c).settings = s.settings := by
  rfl

@[simp] theorem State.raiseBoth_pins (s : State) (c : Attn) : (s.raiseBoth c).pins = s.pins := by
  rfl

@[simp] theorem State.raiseBoth_pending (s : State) (c : Attn) : (s.raiseBoth c).pending = s.pending := by
  rfl

@[simp] theorem State.raiseBoth_front (s : State) (c : Attn) : (s.raiseBoth c).front = s.front := by
  rfl

@[simp] theorem State.raiseBoth_store (s : State) (c : Attn) : (s.raiseBoth c).store = s.store := by
  rfl

@[simp] theorem State.raiseBoth_alerts (s : State) (c : Attn) : (s.raiseBoth c).alerts = s.alerts := by
  rfl

@[simp] theorem State.raiseBoth_cat (s : State) (c : Attn) : (s.raiseBoth c).cat = s.cat := by
  rfl

@[simp] theorem State.raiseBoth_restartsDue (s : State) (c : Attn) : (s.raiseBoth c).restartsDue = s.restartsDue := by
  rfl

@[simp] theorem State.raiseBoth_draws (s : State) (c : Attn) : (s.raiseBoth c).draws = s.draws := by
  rfl

@[simp] theorem State.respond_tb (s : State) (p : Port) (line : Text) : (s.respond p line).tb = s.tb := by
  rfl

@[simp] theorem State.respond_trig (s : State) (p : Port) (line : Text) : (s.respond p line).trig = s.trig := by
  rfl

@[simp] theorem State.respond_thermal (s : State) (p : Port) (line : Text) : (s.respond p line).thermal = s.thermal := by
  rfl

@[simp] theorem State.respond_energy (s : State) (p : Port) (line : Text) : (s.respond p line).energy = s.energy := by
  rfl

@[simp] theorem State.respond_settings (s : State) (p : Port) (line : Text) : (s.respond p line).settings = s.settings := by
  rfl

@[simp] theorem State.respond_pins (s : State) (p : Port) (line : Text) : (s.respond p line).pins = s.pins := by
  rfl

@[simp] theorem State.respond_pending (s : State) (p : Port) (line : Text) : (s.respond p line).pending = s.pending := by
  rfl

@[simp] theorem State.respond_front (s : State) (p : Port) (line : Text) : (s.respond p line).front = s.front := by
  rfl

@[simp] theorem State.respond_store (s : State) (p : Port) (line : Text) : (s.respond p line).store = s.store := by
  rfl

@[simp] theorem State.respond_alerts (s : State) (p : Port) (line : Text) : (s.respond p line).alerts = s.alerts := by
  rfl

@[simp] theorem State.respond_cat (s : State) (p : Port) (line : Text) : (s.respond p line).cat = s.cat := by
  rfl

@[simp] theorem State.respond_restartsDue (s : State) (p : Port) (line : Text) : (s.respond p line).restartsDue = s.restartsDue := by
  rfl

@[simp] theorem State.respond_draws (s : State) (p : Port) (line : Text) : (s.respond p line).draws = s.draws := by
  rfl

@[simp] theorem State.linkReport_tb (s : State) (e : Option Nat) (l : Link) : (s.linkReport e l).tb = s.tb := by
  simp only [State.linkReport]
  split <;> simp

@[simp] theorem State.linkReport_trig (s : State) (e : Option Nat) (l : Link) : (s.linkReport e l).trig = s.trig := by
  simp only [State.linkReport]
  split <;> simp

@[simp] theorem State.linkReport_thermal (s : State) (e : Option Nat) (l : Link) : (s.linkReport e l).thermal = s.thermal := by
  simp only [State.linkReport]
  split <;> simp

@[simp] theorem State.linkReport_energy (s : State) (e : Option Nat) (l : Link) : (s.linkReport e l).energy = s.energy := by
  simp only [State.linkReport]
  split <;> simp

@[simp] theorem State.linkReport_settings (s : State) (e : Option Nat) (l : Link) : (s.linkReport e l).settings = s.settings := by
  simp only [State.linkReport]
  split <;> simp

@[simp] theorem State.linkReport_pins (s : State) (e : Option Nat) (l : Link) : (s.linkReport e l).pins = s.pins := by
  simp only [State.linkReport]
  split <;> simp

@[simp] theorem State.linkReport_pending (s : State) (e : Option Nat) (l : Link) : (s.linkReport e l).pending = s.pending := by
  simp only [State.linkReport]
  split <;> simp

@[simp] theorem State.linkReport_front (s : State) (e : Option Nat) (l : Link) : (s.linkReport e l).front = s.front := by
  simp only [State.linkReport]
  split <;> simp

@[simp] theorem State.linkReport_store (s : State) (e : Option Nat) (l : Link) : (s.linkReport e l).store = s.store := by
  simp only [State.linkReport]
  split <;> simp

@[simp] theorem State.linkReport_alerts (s : State) (e : Option Nat) (l : Link) : (s.linkReport e l).alerts = s.alerts := by
  simp only [State.linkReport]
  split <;> simp

@[simp] theorem State.linkReport_restartsDue (s : State) (e : Option Nat) (l : Link) : (s.linkReport e l).restartsDue = s.restartsDue := by
  simp only [State.linkReport]
  split <;> simp

@[simp] theorem State.linkReport_draws (s : State) (e : Option Nat) (l : Link) : (s.linkReport e l).draws = s.draws := by
  simp only [State.linkReport]
  split <;> simp

@[simp] theorem State.reportLost_tb (s : State) (x : Alert) : (s.reportLost x).tb = s.tb := by
  simp [State.reportLost]

@[simp] theorem State.reportLost_trig (s : State) (x : Alert) : (s.reportLost x).trig = s.trig := by
  simp [State.reportLost]

@[simp] theorem State.reportLost_thermal (s : State) (x : Alert) : (s.reportLost x).thermal = s.thermal := by
  simp [State.reportLost]

@[simp] theorem State.reportLost_energy (s : State) (x : Alert) : (s.reportLost x).energy = s.energy := by
  simp [State.reportLost]

@[simp] theorem State.reportLost_settings (s : State) (x : Alert) : (s.reportLost x).settings = s.settings := by
  simp [State.reportLost]

@[simp] theorem State.reportLost_pins (s : State) (x : Alert) : (s.reportLost x).pins = s.pins := by
  simp [State.reportLost]

@[simp] theorem State.reportLost_pending (s : State) (x : Alert) : (s.reportLost x).pending = s.pending := by
  simp [State.reportLost]

@[simp] theorem State.reportLost_front (s : State) (x : Alert) : (s.reportLost x).front = s.front := by
  simp [State.reportLost]

@[simp] theorem State.reportLost_store (s : State) (x : Alert) : (s.reportLost x).store = s.store := by
  simp [State.reportLost]

@[simp] theorem State.reportLost_restartsDue (s : State) (x : Alert) : (s.reportLost x).restartsDue = s.restartsDue := by
  simp [State.reportLost]

@[simp] theorem State.reportLost_draws (s : State) (x : Alert) : (s.reportLost x).draws = s.draws := by
  simp [State.reportLost]

@[simp] theorem State.judgeWaiting_tb (s : State) : (s.judgeWaiting).tb = s.tb := by
  simp only [State.judgeWaiting]
  split <;> simp

@[simp] theorem State.judgeWaiting_trig (s : State) : (s.judgeWaiting).trig = s.trig := by
  simp only [State.judgeWaiting]
  split <;> simp

@[simp] theorem State.judgeWaiting_thermal (s : State) : (s.judgeWaiting).thermal = s.thermal := by
  simp only [State.judgeWaiting]
  split <;> simp

@[simp] theorem State.judgeWaiting_energy (s : State) : (s.judgeWaiting).energy = s.energy := by
  simp only [State.judgeWaiting]
  split <;> simp

@[simp] theorem State.judgeWaiting_settings (s : State) : (s.judgeWaiting).settings = s.settings := by
  simp only [State.judgeWaiting]
  split <;> simp

@[simp] theorem State.judgeWaiting_pins (s : State) : (s.judgeWaiting).pins = s.pins := by
  simp only [State.judgeWaiting]
  split <;> simp

@[simp] theorem State.judgeWaiting_pending (s : State) : (s.judgeWaiting).pending = s.pending := by
  simp only [State.judgeWaiting]
  split <;> simp

@[simp] theorem State.judgeWaiting_front (s : State) : (s.judgeWaiting).front = s.front := by
  simp only [State.judgeWaiting]
  split <;> simp

@[simp] theorem State.judgeWaiting_store (s : State) : (s.judgeWaiting).store = s.store := by
  simp only [State.judgeWaiting]
  split <;> simp

@[simp] theorem State.judgeWaiting_alerts (s : State) : (s.judgeWaiting).alerts = s.alerts := by
  simp only [State.judgeWaiting]
  split <;> simp

@[simp] theorem State.judgeWaiting_cat (s : State) : (s.judgeWaiting).cat = s.cat := by
  simp only [State.judgeWaiting]
  split <;> simp

@[simp] theorem State.judgeWaiting_restartsDue (s : State) : (s.judgeWaiting).restartsDue = s.restartsDue := by
  simp only [State.judgeWaiting]
  split <;> simp

@[simp] theorem State.judgeWaiting_draws (s : State) : (s.judgeWaiting).draws = s.draws := by
  simp only [State.judgeWaiting]
  split <;> simp

@[simp] theorem State.place_tb (s : State) (x : Alert) : (s.place x).tb = s.tb := by
  simp [State.place]

@[simp] theorem State.place_trig (s : State) (x : Alert) : (s.place x).trig = s.trig := by
  simp [State.place]

@[simp] theorem State.place_thermal (s : State) (x : Alert) : (s.place x).thermal = s.thermal := by
  simp [State.place]

@[simp] theorem State.place_energy (s : State) (x : Alert) : (s.place x).energy = s.energy := by
  simp [State.place]

@[simp] theorem State.place_settings (s : State) (x : Alert) : (s.place x).settings = s.settings := by
  simp [State.place]

@[simp] theorem State.place_pins (s : State) (x : Alert) : (s.place x).pins = s.pins := by
  simp [State.place]

@[simp] theorem State.place_pending (s : State) (x : Alert) : (s.place x).pending = s.pending := by
  simp [State.place]

@[simp] theorem State.place_front (s : State) (x : Alert) : (s.place x).front = s.front := by
  simp [State.place]

@[simp] theorem State.place_store (s : State) (x : Alert) : (s.place x).store = s.store := by
  simp [State.place]

@[simp] theorem State.place_restartsDue (s : State) (x : Alert) : (s.place x).restartsDue = s.restartsDue := by
  simp [State.place]

@[simp] theorem State.place_draws (s : State) (x : Alert) : (s.place x).draws = s.draws := by
  simp [State.place]

@[simp] theorem State.dropHeld_tb (s : State) (x : Alert) : (s.dropHeld x).tb = s.tb := by
  simp [State.dropHeld]

@[simp] theorem State.dropHeld_trig (s : State) (x : Alert) : (s.dropHeld x).trig = s.trig := by
  simp [State.dropHeld]

@[simp] theorem State.dropHeld_thermal (s : State) (x : Alert) : (s.dropHeld x).thermal = s.thermal := by
  simp [State.dropHeld]

@[simp] theorem State.dropHeld_energy (s : State) (x : Alert) : (s.dropHeld x).energy = s.energy := by
  simp [State.dropHeld]

@[simp] theorem State.dropHeld_settings (s : State) (x : Alert) : (s.dropHeld x).settings = s.settings := by
  simp [State.dropHeld]

@[simp] theorem State.dropHeld_pins (s : State) (x : Alert) : (s.dropHeld x).pins = s.pins := by
  simp [State.dropHeld]

@[simp] theorem State.dropHeld_pending (s : State) (x : Alert) : (s.dropHeld x).pending = s.pending := by
  simp [State.dropHeld]

@[simp] theorem State.dropHeld_front (s : State) (x : Alert) : (s.dropHeld x).front = s.front := by
  simp [State.dropHeld]

@[simp] theorem State.dropHeld_store (s : State) (x : Alert) : (s.dropHeld x).store = s.store := by
  simp [State.dropHeld]

@[simp] theorem State.dropHeld_restartsDue (s : State) (x : Alert) : (s.dropHeld x).restartsDue = s.restartsDue := by
  simp [State.dropHeld]

@[simp] theorem State.dropHeld_draws (s : State) (x : Alert) : (s.dropHeld x).draws = s.draws := by
  simp [State.dropHeld]

@[simp] theorem State.dropNew_tb (s : State) (x : Alert) : (s.dropNew x).tb = s.tb := by
  simp [State.dropNew]

@[simp] theorem State.dropNew_trig (s : State) (x : Alert) : (s.dropNew x).trig = s.trig := by
  simp [State.dropNew]

@[simp] theorem State.dropNew_thermal (s : State) (x : Alert) : (s.dropNew x).thermal = s.thermal := by
  simp [State.dropNew]

@[simp] theorem State.dropNew_energy (s : State) (x : Alert) : (s.dropNew x).energy = s.energy := by
  simp [State.dropNew]

@[simp] theorem State.dropNew_settings (s : State) (x : Alert) : (s.dropNew x).settings = s.settings := by
  simp [State.dropNew]

@[simp] theorem State.dropNew_pins (s : State) (x : Alert) : (s.dropNew x).pins = s.pins := by
  simp [State.dropNew]

@[simp] theorem State.dropNew_pending (s : State) (x : Alert) : (s.dropNew x).pending = s.pending := by
  simp [State.dropNew]

@[simp] theorem State.dropNew_front (s : State) (x : Alert) : (s.dropNew x).front = s.front := by
  simp [State.dropNew]

@[simp] theorem State.dropNew_store (s : State) (x : Alert) : (s.dropNew x).store = s.store := by
  simp [State.dropNew]

@[simp] theorem State.dropNew_restartsDue (s : State) (x : Alert) : (s.dropNew x).restartsDue = s.restartsDue := by
  simp [State.dropNew]

@[simp] theorem State.dropNew_draws (s : State) (x : Alert) : (s.dropNew x).draws = s.draws := by
  simp [State.dropNew]

@[simp] theorem State.join_tb (s : State) (x : Alert) : (s.join x).tb = s.tb := by
  simp only [State.join]
  split <;> simp

@[simp] theorem State.join_trig (s : State) (x : Alert) : (s.join x).trig = s.trig := by
  simp only [State.join]
  split <;> simp

@[simp] theorem State.join_thermal (s : State) (x : Alert) : (s.join x).thermal = s.thermal := by
  simp only [State.join]
  split <;> simp

@[simp] theorem State.join_energy (s : State) (x : Alert) : (s.join x).energy = s.energy := by
  simp only [State.join]
  split <;> simp

@[simp] theorem State.join_settings (s : State) (x : Alert) : (s.join x).settings = s.settings := by
  simp only [State.join]
  split <;> simp

@[simp] theorem State.join_pins (s : State) (x : Alert) : (s.join x).pins = s.pins := by
  simp only [State.join]
  split <;> simp

@[simp] theorem State.join_pending (s : State) (x : Alert) : (s.join x).pending = s.pending := by
  simp only [State.join]
  split <;> simp

@[simp] theorem State.join_front (s : State) (x : Alert) : (s.join x).front = s.front := by
  simp only [State.join]
  split <;> simp

@[simp] theorem State.join_store (s : State) (x : Alert) : (s.join x).store = s.store := by
  simp only [State.join]
  split <;> simp

@[simp] theorem State.join_restartsDue (s : State) (x : Alert) : (s.join x).restartsDue = s.restartsDue := by
  simp only [State.join]
  split <;> simp

@[simp] theorem State.join_draws (s : State) (x : Alert) : (s.join x).draws = s.draws := by
  simp only [State.join]
  split <;> simp

@[simp] theorem State.postAs_tb (s : State) (c : Cause) (v : Severity) (t : Text) : (s.postAs c v t).tb = s.tb := by
  simp only [State.postAs]
  split <;> simp

@[simp] theorem State.postAs_trig (s : State) (c : Cause) (v : Severity) (t : Text) : (s.postAs c v t).trig = s.trig := by
  simp only [State.postAs]
  split <;> simp

@[simp] theorem State.postAs_thermal (s : State) (c : Cause) (v : Severity) (t : Text) : (s.postAs c v t).thermal = s.thermal := by
  simp only [State.postAs]
  split <;> simp

@[simp] theorem State.postAs_energy (s : State) (c : Cause) (v : Severity) (t : Text) : (s.postAs c v t).energy = s.energy := by
  simp only [State.postAs]
  split <;> simp

@[simp] theorem State.postAs_settings (s : State) (c : Cause) (v : Severity) (t : Text) : (s.postAs c v t).settings = s.settings := by
  simp only [State.postAs]
  split <;> simp

@[simp] theorem State.postAs_pins (s : State) (c : Cause) (v : Severity) (t : Text) : (s.postAs c v t).pins = s.pins := by
  simp only [State.postAs]
  split <;> simp

@[simp] theorem State.postAs_pending (s : State) (c : Cause) (v : Severity) (t : Text) : (s.postAs c v t).pending = s.pending := by
  simp only [State.postAs]
  split <;> simp

@[simp] theorem State.postAs_front (s : State) (c : Cause) (v : Severity) (t : Text) : (s.postAs c v t).front = s.front := by
  simp only [State.postAs]
  split <;> simp

@[simp] theorem State.postAs_store (s : State) (c : Cause) (v : Severity) (t : Text) : (s.postAs c v t).store = s.store := by
  simp only [State.postAs]
  split <;> simp

@[simp] theorem State.postAs_restartsDue (s : State) (c : Cause) (v : Severity) (t : Text) : (s.postAs c v t).restartsDue = s.restartsDue := by
  simp only [State.postAs]
  split <;> simp

@[simp] theorem State.postAs_draws (s : State) (c : Cause) (v : Severity) (t : Text) : (s.postAs c v t).draws = s.draws := by
  simp only [State.postAs]
  split <;> simp

@[simp] theorem State.post_tb (s : State) (c : Cause) : (s.post c).tb = s.tb := by
  simp [State.post]

@[simp] theorem State.post_trig (s : State) (c : Cause) : (s.post c).trig = s.trig := by
  simp [State.post]

@[simp] theorem State.post_thermal (s : State) (c : Cause) : (s.post c).thermal = s.thermal := by
  simp [State.post]

@[simp] theorem State.post_energy (s : State) (c : Cause) : (s.post c).energy = s.energy := by
  simp [State.post]

@[simp] theorem State.post_settings (s : State) (c : Cause) : (s.post c).settings = s.settings := by
  simp [State.post]

@[simp] theorem State.post_pins (s : State) (c : Cause) : (s.post c).pins = s.pins := by
  simp [State.post]

@[simp] theorem State.post_pending (s : State) (c : Cause) : (s.post c).pending = s.pending := by
  simp [State.post]

@[simp] theorem State.post_front (s : State) (c : Cause) : (s.post c).front = s.front := by
  simp [State.post]

@[simp] theorem State.post_store (s : State) (c : Cause) : (s.post c).store = s.store := by
  simp [State.post]

@[simp] theorem State.post_restartsDue (s : State) (c : Cause) : (s.post c).restartsDue = s.restartsDue := by
  simp [State.post]

@[simp] theorem State.post_draws (s : State) (c : Cause) : (s.post c).draws = s.draws := by
  simp [State.post]

@[simp] theorem State.openAlert_tb (s : State) (e : Option Nat) (q : Summary) : (s.openAlert e q).tb = s.tb := by
  simp only [State.openAlert]
  split <;> simp

@[simp] theorem State.openAlert_trig (s : State) (e : Option Nat) (q : Summary) : (s.openAlert e q).trig = s.trig := by
  simp only [State.openAlert]
  split <;> simp

@[simp] theorem State.openAlert_thermal (s : State) (e : Option Nat) (q : Summary) : (s.openAlert e q).thermal = s.thermal := by
  simp only [State.openAlert]
  split <;> simp

@[simp] theorem State.openAlert_energy (s : State) (e : Option Nat) (q : Summary) : (s.openAlert e q).energy = s.energy := by
  simp only [State.openAlert]
  split <;> simp

@[simp] theorem State.openAlert_settings (s : State) (e : Option Nat) (q : Summary) : (s.openAlert e q).settings = s.settings := by
  simp only [State.openAlert]
  split <;> simp

@[simp] theorem State.openAlert_pins (s : State) (e : Option Nat) (q : Summary) : (s.openAlert e q).pins = s.pins := by
  simp only [State.openAlert]
  split <;> simp

@[simp] theorem State.openAlert_pending (s : State) (e : Option Nat) (q : Summary) : (s.openAlert e q).pending = s.pending := by
  simp only [State.openAlert]
  split <;> simp

@[simp] theorem State.openAlert_front (s : State) (e : Option Nat) (q : Summary) : (s.openAlert e q).front = s.front := by
  simp only [State.openAlert]
  split <;> simp

@[simp] theorem State.openAlert_store (s : State) (e : Option Nat) (q : Summary) : (s.openAlert e q).store = s.store := by
  simp only [State.openAlert]
  split <;> simp

@[simp] theorem State.openAlert_restartsDue (s : State) (e : Option Nat) (q : Summary) : (s.openAlert e q).restartsDue = s.restartsDue := by
  simp only [State.openAlert]
  split <;> simp

@[simp] theorem State.openAlert_draws (s : State) (e : Option Nat) (q : Summary) : (s.openAlert e q).draws = s.draws := by
  simp only [State.openAlert]
  split <;> simp

@[simp] theorem State.closeAlert_tb (s : State) (q : Summary) : (s.closeAlert q).tb = s.tb := by
  simp only [State.closeAlert]
  (repeat' split) <;> simp

@[simp] theorem State.closeAlert_trig (s : State) (q : Summary) : (s.closeAlert q).trig = s.trig := by
  simp only [State.closeAlert]
  (repeat' split) <;> simp

@[simp] theorem State.closeAlert_thermal (s : State) (q : Summary) : (s.closeAlert q).thermal = s.thermal := by
  simp only [State.closeAlert]
  (repeat' split) <;> simp

@[simp] theorem State.closeAlert_energy (s : State) (q : Summary) : (s.closeAlert q).energy = s.energy := by
  simp only [State.closeAlert]
  (repeat' split) <;> simp

@[simp] theorem State.closeAlert_settings (s : State) (q : Summary) : (s.closeAlert q).settings = s.settings := by
  simp only [State.closeAlert]
  (repeat' split) <;> simp

@[simp] theorem State.closeAlert_pins (s : State) (q : Summary) : (s.closeAlert q).pins = s.pins := by
  simp only [State.closeAlert]
  (repeat' split) <;> simp

@[simp] theorem State.closeAlert_pending (s : State) (q : Summary) : (s.closeAlert q).pending = s.pending := by
  simp only [State.closeAlert]
  (repeat' split) <;> simp

@[simp] theorem State.closeAlert_front (s : State) (q : Summary) : (s.closeAlert q).front = s.front := by
  simp only [State.closeAlert]
  (repeat' split) <;> simp

@[simp] theorem State.closeAlert_store (s : State) (q : Summary) : (s.closeAlert q).store = s.store := by
  simp only [State.closeAlert]
  (repeat' split) <;> simp

@[simp] theorem State.closeAlert_restartsDue (s : State) (q : Summary) : (s.closeAlert q).restartsDue = s.restartsDue := by
  simp only [State.closeAlert]
  (repeat' split) <;> simp

@[simp] theorem State.closeAlert_draws (s : State) (q : Summary) : (s.closeAlert q).draws = s.draws := by
  simp only [State.closeAlert]
  (repeat' split) <;> simp

@[simp] theorem State.expire_tb (s : State) (x : Alert) : (s.expire x).tb = s.tb := by
  simp [State.expire]

@[simp] theorem State.expire_trig (s : State) (x : Alert) : (s.expire x).trig = s.trig := by
  simp [State.expire]

@[simp] theorem State.expire_thermal (s : State) (x : Alert) : (s.expire x).thermal = s.thermal := by
  simp [State.expire]

@[simp] theorem State.expire_energy (s : State) (x : Alert) : (s.expire x).energy = s.energy := by
  simp [State.expire]

@[simp] theorem State.expire_settings (s : State) (x : Alert) : (s.expire x).settings = s.settings := by
  simp [State.expire]

@[simp] theorem State.expire_pins (s : State) (x : Alert) : (s.expire x).pins = s.pins := by
  simp [State.expire]

@[simp] theorem State.expire_pending (s : State) (x : Alert) : (s.expire x).pending = s.pending := by
  simp [State.expire]

@[simp] theorem State.expire_front (s : State) (x : Alert) : (s.expire x).front = s.front := by
  simp [State.expire]

@[simp] theorem State.expire_store (s : State) (x : Alert) : (s.expire x).store = s.store := by
  simp [State.expire]

@[simp] theorem State.expire_restartsDue (s : State) (x : Alert) : (s.expire x).restartsDue = s.restartsDue := by
  simp [State.expire]

@[simp] theorem State.expire_draws (s : State) (x : Alert) : (s.expire x).draws = s.draws := by
  simp [State.expire]

@[simp] theorem State.returnAlert_tb (s : State) (x : Alert) (n : Nat) : (s.returnAlert x n).tb = s.tb := by
  simp only [State.returnAlert]
  split <;> simp

@[simp] theorem State.returnAlert_trig (s : State) (x : Alert) (n : Nat) : (s.returnAlert x n).trig = s.trig := by
  simp only [State.returnAlert]
  split <;> simp

@[simp] theorem State.returnAlert_thermal (s : State) (x : Alert) (n : Nat) : (s.returnAlert x n).thermal = s.thermal := by
  simp only [State.returnAlert]
  split <;> simp

@[simp] theorem State.returnAlert_energy (s : State) (x : Alert) (n : Nat) : (s.returnAlert x n).energy = s.energy := by
  simp only [State.returnAlert]
  split <;> simp

@[simp] theorem State.returnAlert_settings (s : State) (x : Alert) (n : Nat) : (s.returnAlert x n).settings = s.settings := by
  simp only [State.returnAlert]
  split <;> simp

@[simp] theorem State.returnAlert_pins (s : State) (x : Alert) (n : Nat) : (s.returnAlert x n).pins = s.pins := by
  simp only [State.returnAlert]
  split <;> simp

@[simp] theorem State.returnAlert_pending (s : State) (x : Alert) (n : Nat) : (s.returnAlert x n).pending = s.pending := by
  simp only [State.returnAlert]
  split <;> simp

@[simp] theorem State.returnAlert_front (s : State) (x : Alert) (n : Nat) : (s.returnAlert x n).front = s.front := by
  simp only [State.returnAlert]
  split <;> simp

@[simp] theorem State.returnAlert_store (s : State) (x : Alert) (n : Nat) : (s.returnAlert x n).store = s.store := by
  simp only [State.returnAlert]
  split <;> simp

@[simp] theorem State.returnAlert_restartsDue (s : State) (x : Alert) (n : Nat) : (s.returnAlert x n).restartsDue = s.restartsDue := by
  simp only [State.returnAlert]
  split <;> simp

@[simp] theorem State.returnAlert_draws (s : State) (x : Alert) (n : Nat) : (s.returnAlert x n).draws = s.draws := by
  simp only [State.returnAlert]
  split <;> simp

@[simp] theorem State.failAlert_tb (s : State) (x : Alert) : (s.failAlert x).tb = s.tb := by
  simp only [State.failAlert]
  split <;> simp

@[simp] theorem State.failAlert_trig (s : State) (x : Alert) : (s.failAlert x).trig = s.trig := by
  simp only [State.failAlert]
  split <;> simp

@[simp] theorem State.failAlert_thermal (s : State) (x : Alert) : (s.failAlert x).thermal = s.thermal := by
  simp only [State.failAlert]
  split <;> simp

@[simp] theorem State.failAlert_energy (s : State) (x : Alert) : (s.failAlert x).energy = s.energy := by
  simp only [State.failAlert]
  split <;> simp

@[simp] theorem State.failAlert_settings (s : State) (x : Alert) : (s.failAlert x).settings = s.settings := by
  simp only [State.failAlert]
  split <;> simp

@[simp] theorem State.failAlert_pins (s : State) (x : Alert) : (s.failAlert x).pins = s.pins := by
  simp only [State.failAlert]
  split <;> simp

@[simp] theorem State.failAlert_pending (s : State) (x : Alert) : (s.failAlert x).pending = s.pending := by
  simp only [State.failAlert]
  split <;> simp

@[simp] theorem State.failAlert_front (s : State) (x : Alert) : (s.failAlert x).front = s.front := by
  simp only [State.failAlert]
  split <;> simp

@[simp] theorem State.failAlert_store (s : State) (x : Alert) : (s.failAlert x).store = s.store := by
  simp only [State.failAlert]
  split <;> simp

@[simp] theorem State.failAlert_restartsDue (s : State) (x : Alert) : (s.failAlert x).restartsDue = s.restartsDue := by
  simp only [State.failAlert]
  split <;> simp

@[simp] theorem State.failAlert_draws (s : State) (x : Alert) : (s.failAlert x).draws = s.draws := by
  simp only [State.failAlert]
  split <;> simp

@[simp] theorem State.deferAlert_tb (s : State) (x : Alert) : (s.deferAlert x).tb = s.tb := by
  simp [State.deferAlert]

@[simp] theorem State.deferAlert_trig (s : State) (x : Alert) : (s.deferAlert x).trig = s.trig := by
  simp [State.deferAlert]

@[simp] theorem State.deferAlert_thermal (s : State) (x : Alert) : (s.deferAlert x).thermal = s.thermal := by
  simp [State.deferAlert]

@[simp] theorem State.deferAlert_energy (s : State) (x : Alert) : (s.deferAlert x).energy = s.energy := by
  simp [State.deferAlert]

@[simp] theorem State.deferAlert_settings (s : State) (x : Alert) : (s.deferAlert x).settings = s.settings := by
  simp [State.deferAlert]

@[simp] theorem State.deferAlert_pins (s : State) (x : Alert) : (s.deferAlert x).pins = s.pins := by
  simp [State.deferAlert]

@[simp] theorem State.deferAlert_pending (s : State) (x : Alert) : (s.deferAlert x).pending = s.pending := by
  simp [State.deferAlert]

@[simp] theorem State.deferAlert_front (s : State) (x : Alert) : (s.deferAlert x).front = s.front := by
  simp [State.deferAlert]

@[simp] theorem State.deferAlert_store (s : State) (x : Alert) : (s.deferAlert x).store = s.store := by
  simp [State.deferAlert]

@[simp] theorem State.deferAlert_restartsDue (s : State) (x : Alert) : (s.deferAlert x).restartsDue = s.restartsDue := by
  simp [State.deferAlert]

@[simp] theorem State.deferAlert_draws (s : State) (x : Alert) : (s.deferAlert x).draws = s.draws := by
  simp [State.deferAlert]

@[simp] theorem State.deliverAlert_tb (s : State) (x : Alert) : (s.deliverAlert x).tb = s.tb := by
  simp only [State.deliverAlert]
  split <;> simp

@[simp] theorem State.deliverAlert_trig (s : State) (x : Alert) : (s.deliverAlert x).trig = s.trig := by
  simp only [State.deliverAlert]
  split <;> simp

@[simp] theorem State.deliverAlert_thermal (s : State) (x : Alert) : (s.deliverAlert x).thermal = s.thermal := by
  simp only [State.deliverAlert]
  split <;> simp

@[simp] theorem State.deliverAlert_energy (s : State) (x : Alert) : (s.deliverAlert x).energy = s.energy := by
  simp only [State.deliverAlert]
  split <;> simp

@[simp] theorem State.deliverAlert_settings (s : State) (x : Alert) : (s.deliverAlert x).settings = s.settings := by
  simp only [State.deliverAlert]
  split <;> simp

@[simp] theorem State.deliverAlert_pins (s : State) (x : Alert) : (s.deliverAlert x).pins = s.pins := by
  simp only [State.deliverAlert]
  split <;> simp

@[simp] theorem State.deliverAlert_pending (s : State) (x : Alert) : (s.deliverAlert x).pending = s.pending := by
  simp only [State.deliverAlert]
  split <;> simp

@[simp] theorem State.deliverAlert_front (s : State) (x : Alert) : (s.deliverAlert x).front = s.front := by
  simp only [State.deliverAlert]
  split <;> simp

@[simp] theorem State.deliverAlert_store (s : State) (x : Alert) : (s.deliverAlert x).store = s.store := by
  simp only [State.deliverAlert]
  split <;> simp

@[simp] theorem State.deliverAlert_restartsDue (s : State) (x : Alert) : (s.deliverAlert x).restartsDue = s.restartsDue := by
  simp only [State.deliverAlert]
  split <;> simp

@[simp] theorem State.deliverAlert_draws (s : State) (x : Alert) : (s.deliverAlert x).draws = s.draws := by
  simp only [State.deliverAlert]
  split <;> simp

@[simp] theorem State.takeResult_tb (s : State) (x : Alert) (r : Result) : (s.takeResult x r).tb = s.tb := by
  simp only [State.takeResult]
  split <;> simp

@[simp] theorem State.takeResult_trig (s : State) (x : Alert) (r : Result) : (s.takeResult x r).trig = s.trig := by
  simp only [State.takeResult]
  split <;> simp

@[simp] theorem State.takeResult_thermal (s : State) (x : Alert) (r : Result) : (s.takeResult x r).thermal = s.thermal := by
  simp only [State.takeResult]
  split <;> simp

@[simp] theorem State.takeResult_energy (s : State) (x : Alert) (r : Result) : (s.takeResult x r).energy = s.energy := by
  simp only [State.takeResult]
  split <;> simp

@[simp] theorem State.takeResult_settings (s : State) (x : Alert) (r : Result) : (s.takeResult x r).settings = s.settings := by
  simp only [State.takeResult]
  split <;> simp

@[simp] theorem State.takeResult_pins (s : State) (x : Alert) (r : Result) : (s.takeResult x r).pins = s.pins := by
  simp only [State.takeResult]
  split <;> simp

@[simp] theorem State.takeResult_pending (s : State) (x : Alert) (r : Result) : (s.takeResult x r).pending = s.pending := by
  simp only [State.takeResult]
  split <;> simp

@[simp] theorem State.takeResult_front (s : State) (x : Alert) (r : Result) : (s.takeResult x r).front = s.front := by
  simp only [State.takeResult]
  split <;> simp

@[simp] theorem State.takeResult_store (s : State) (x : Alert) (r : Result) : (s.takeResult x r).store = s.store := by
  simp only [State.takeResult]
  split <;> simp

@[simp] theorem State.takeResult_restartsDue (s : State) (x : Alert) (r : Result) : (s.takeResult x r).restartsDue = s.restartsDue := by
  simp only [State.takeResult]
  split <;> simp

@[simp] theorem State.takeResult_draws (s : State) (x : Alert) (r : Result) : (s.takeResult x r).draws = s.draws := by
  simp only [State.takeResult]
  split <;> simp

@[simp] theorem State.transitTimeout_tb (s : State) : (s.transitTimeout).tb = s.tb := by
  simp only [State.transitTimeout]
  (repeat' split) <;> simp

@[simp] theorem State.transitTimeout_trig (s : State) : (s.transitTimeout).trig = s.trig := by
  simp only [State.transitTimeout]
  (repeat' split) <;> simp

@[simp] theorem State.transitTimeout_thermal (s : State) : (s.transitTimeout).thermal = s.thermal := by
  simp only [State.transitTimeout]
  (repeat' split) <;> simp

@[simp] theorem State.transitTimeout_energy (s : State) : (s.transitTimeout).energy = s.energy := by
  simp only [State.transitTimeout]
  (repeat' split) <;> simp

@[simp] theorem State.transitTimeout_settings (s : State) : (s.transitTimeout).settings = s.settings := by
  simp only [State.transitTimeout]
  (repeat' split) <;> simp

@[simp] theorem State.transitTimeout_pins (s : State) : (s.transitTimeout).pins = s.pins := by
  simp only [State.transitTimeout]
  (repeat' split) <;> simp

@[simp] theorem State.transitTimeout_pending (s : State) : (s.transitTimeout).pending = s.pending := by
  simp only [State.transitTimeout]
  (repeat' split) <;> simp

@[simp] theorem State.transitTimeout_front (s : State) : (s.transitTimeout).front = s.front := by
  simp only [State.transitTimeout]
  (repeat' split) <;> simp

@[simp] theorem State.transitTimeout_store (s : State) : (s.transitTimeout).store = s.store := by
  simp only [State.transitTimeout]
  (repeat' split) <;> simp

@[simp] theorem State.transitTimeout_restartsDue (s : State) : (s.transitTimeout).restartsDue = s.restartsDue := by
  simp only [State.transitTimeout]
  (repeat' split) <;> simp

@[simp] theorem State.transitTimeout_draws (s : State) : (s.transitTimeout).draws = s.draws := by
  simp only [State.transitTimeout]
  (repeat' split) <;> simp

@[simp] theorem State.expireAll_tb (s : State) (l : List Alert) : (s.expireAll l).tb = s.tb := by
  induction l generalizing s with
  | nil => rfl
  | cons _ _ ih =>
    simp only [State.expireAll, ih]
    split <;> simp

@[simp] theorem State.expireAll_trig (s : State) (l : List Alert) : (s.expireAll l).trig = s.trig := by
  induction l generalizing s with
  | nil => rfl
  | cons _ _ ih =>
    simp only [State.expireAll, ih]
    split <;> simp

@[simp] theorem State.expireAll_thermal (s : State) (l : List Alert) : (s.expireAll l).thermal = s.thermal := by
  induction l generalizing s with
  | nil => rfl
  | cons _ _ ih =>
    simp only [State.expireAll, ih]
    split <;> simp

@[simp] theorem State.expireAll_energy (s : State) (l : List Alert) : (s.expireAll l).energy = s.energy := by
  induction l generalizing s with
  | nil => rfl
  | cons _ _ ih =>
    simp only [State.expireAll, ih]
    split <;> simp

@[simp] theorem State.expireAll_settings (s : State) (l : List Alert) : (s.expireAll l).settings = s.settings := by
  induction l generalizing s with
  | nil => rfl
  | cons _ _ ih =>
    simp only [State.expireAll, ih]
    split <;> simp

@[simp] theorem State.expireAll_pins (s : State) (l : List Alert) : (s.expireAll l).pins = s.pins := by
  induction l generalizing s with
  | nil => rfl
  | cons _ _ ih =>
    simp only [State.expireAll, ih]
    split <;> simp

@[simp] theorem State.expireAll_pending (s : State) (l : List Alert) : (s.expireAll l).pending = s.pending := by
  induction l generalizing s with
  | nil => rfl
  | cons _ _ ih =>
    simp only [State.expireAll, ih]
    split <;> simp

@[simp] theorem State.expireAll_front (s : State) (l : List Alert) : (s.expireAll l).front = s.front := by
  induction l generalizing s with
  | nil => rfl
  | cons _ _ ih =>
    simp only [State.expireAll, ih]
    split <;> simp

@[simp] theorem State.expireAll_store (s : State) (l : List Alert) : (s.expireAll l).store = s.store := by
  induction l generalizing s with
  | nil => rfl
  | cons _ _ ih =>
    simp only [State.expireAll, ih]
    split <;> simp

@[simp] theorem State.expireAll_restartsDue (s : State) (l : List Alert) : (s.expireAll l).restartsDue = s.restartsDue := by
  induction l generalizing s with
  | nil => rfl
  | cons _ _ ih =>
    simp only [State.expireAll, ih]
    split <;> simp

@[simp] theorem State.expireAll_draws (s : State) (l : List Alert) : (s.expireAll l).draws = s.draws := by
  induction l generalizing s with
  | nil => rfl
  | cons _ _ ih =>
    simp only [State.expireAll, ih]
    split <;> simp

@[simp] theorem State.restartAlerts_tb (s : State) : (s.restartAlerts).tb = s.tb := by
  simp only [State.restartAlerts]
  split <;> simp

@[simp] theorem State.restartAlerts_trig (s : State) : (s.restartAlerts).trig = s.trig := by
  simp only [State.restartAlerts]
  split <;> simp

@[simp] theorem State.restartAlerts_thermal (s : State) : (s.restartAlerts).thermal = s.thermal := by
  simp only [State.restartAlerts]
  split <;> simp

@[simp] theorem State.restartAlerts_energy (s : State) : (s.restartAlerts).energy = s.energy := by
  simp only [State.restartAlerts]
  split <;> simp

@[simp] theorem State.restartAlerts_settings (s : State) : (s.restartAlerts).settings = s.settings := by
  simp only [State.restartAlerts]
  split <;> simp

@[simp] theorem State.restartAlerts_pins (s : State) : (s.restartAlerts).pins = s.pins := by
  simp only [State.restartAlerts]
  split <;> simp

@[simp] theorem State.restartAlerts_pending (s : State) : (s.restartAlerts).pending = s.pending := by
  simp only [State.restartAlerts]
  split <;> simp

@[simp] theorem State.restartAlerts_front (s : State) : (s.restartAlerts).front = s.front := by
  simp only [State.restartAlerts]
  split <;> simp

@[simp] theorem State.restartAlerts_store (s : State) : (s.restartAlerts).store = s.store := by
  simp only [State.restartAlerts]
  split <;> simp

@[simp] theorem State.restartAlerts_restartsDue (s : State) : (s.restartAlerts).restartsDue = s.restartsDue := by
  simp only [State.restartAlerts]
  split <;> simp

@[simp] theorem State.restartAlerts_draws (s : State) : (s.restartAlerts).draws = s.draws := by
  simp only [State.restartAlerts]
  split <;> simp

@[simp] theorem State.updateRecord_tb (s : State) (id : Nat) (f : Record → Record) : (s.updateRecord id f).tb = s.tb := by
  rfl

@[simp] theorem State.updateRecord_trig (s : State) (id : Nat) (f : Record → Record) : (s.updateRecord id f).trig = s.trig := by
  rfl

@[simp] theorem State.updateRecord_thermal (s : State) (id : Nat) (f : Record → Record) : (s.updateRecord id f).thermal = s.thermal := by
  rfl

@[simp] theorem State.updateRecord_energy (s : State) (id : Nat) (f : Record → Record) : (s.updateRecord id f).energy = s.energy := by
  rfl

@[simp] theorem State.updateRecord_settings (s : State) (id : Nat) (f : Record → Record) : (s.updateRecord id f).settings = s.settings := by
  rfl

@[simp] theorem State.updateRecord_pins (s : State) (id : Nat) (f : Record → Record) : (s.updateRecord id f).pins = s.pins := by
  rfl

@[simp] theorem State.updateRecord_pending (s : State) (id : Nat) (f : Record → Record) : (s.updateRecord id f).pending = s.pending := by
  rfl

@[simp] theorem State.updateRecord_front (s : State) (id : Nat) (f : Record → Record) : (s.updateRecord id f).front = s.front := by
  rfl

@[simp] theorem State.updateRecord_store (s : State) (id : Nat) (f : Record → Record) : (s.updateRecord id f).store = s.store := by
  rfl

@[simp] theorem State.updateRecord_alerts (s : State) (id : Nat) (f : Record → Record) : (s.updateRecord id f).alerts = s.alerts := by
  rfl

@[simp] theorem State.updateRecord_restartsDue (s : State) (id : Nat) (f : Record → Record) : (s.updateRecord id f).restartsDue = s.restartsDue := by
  rfl

@[simp] theorem State.updateRecord_draws (s : State) (id : Nat) (f : Record → Record) : (s.updateRecord id f).draws = s.draws := by
  rfl

@[simp] theorem State.reportFigures_tb (s : State) (id : Nat) (c : EventCtx) : (s.reportFigures id c).tb = s.tb := by
  rfl

@[simp] theorem State.reportFigures_trig (s : State) (id : Nat) (c : EventCtx) : (s.reportFigures id c).trig = s.trig := by
  rfl

@[simp] theorem State.reportFigures_thermal (s : State) (id : Nat) (c : EventCtx) : (s.reportFigures id c).thermal = s.thermal := by
  rfl

@[simp] theorem State.reportFigures_energy (s : State) (id : Nat) (c : EventCtx) : (s.reportFigures id c).energy = s.energy := by
  rfl

@[simp] theorem State.reportFigures_settings (s : State) (id : Nat) (c : EventCtx) : (s.reportFigures id c).settings = s.settings := by
  rfl

@[simp] theorem State.reportFigures_pins (s : State) (id : Nat) (c : EventCtx) : (s.reportFigures id c).pins = s.pins := by
  rfl

@[simp] theorem State.reportFigures_pending (s : State) (id : Nat) (c : EventCtx) : (s.reportFigures id c).pending = s.pending := by
  rfl

@[simp] theorem State.reportFigures_front (s : State) (id : Nat) (c : EventCtx) : (s.reportFigures id c).front = s.front := by
  rfl

@[simp] theorem State.reportFigures_store (s : State) (id : Nat) (c : EventCtx) : (s.reportFigures id c).store = s.store := by
  rfl

@[simp] theorem State.reportFigures_alerts (s : State) (id : Nat) (c : EventCtx) : (s.reportFigures id c).alerts = s.alerts := by
  rfl

@[simp] theorem State.reportFigures_restartsDue (s : State) (id : Nat) (c : EventCtx) : (s.reportFigures id c).restartsDue = s.restartsDue := by
  rfl

@[simp] theorem State.reportFigures_draws (s : State) (id : Nat) (c : EventCtx) : (s.reportFigures id c).draws = s.draws := by
  rfl

@[simp] theorem State.reportBlanked_tb (s : State) (id : Nat) : (s.reportBlanked id).tb = s.tb := by
  rfl

@[simp] theorem State.reportBlanked_trig (s : State) (id : Nat) : (s.reportBlanked id).trig = s.trig := by
  rfl

@[simp] theorem State.reportBlanked_thermal (s : State) (id : Nat) : (s.reportBlanked id).thermal = s.thermal := by
  rfl

@[simp] theorem State.reportBlanked_energy (s : State) (id : Nat) : (s.reportBlanked id).energy = s.energy := by
  rfl

@[simp] theorem State.reportBlanked_settings (s : State) (id : Nat) : (s.reportBlanked id).settings = s.settings := by
  rfl

@[simp] theorem State.reportBlanked_pins (s : State) (id : Nat) : (s.reportBlanked id).pins = s.pins := by
  rfl

@[simp] theorem State.reportBlanked_pending (s : State) (id : Nat) : (s.reportBlanked id).pending = s.pending := by
  rfl

@[simp] theorem State.reportBlanked_front (s : State) (id : Nat) : (s.reportBlanked id).front = s.front := by
  rfl

@[simp] theorem State.reportBlanked_store (s : State) (id : Nat) : (s.reportBlanked id).store = s.store := by
  rfl

@[simp] theorem State.reportBlanked_alerts (s : State) (id : Nat) : (s.reportBlanked id).alerts = s.alerts := by
  rfl

@[simp] theorem State.reportBlanked_restartsDue (s : State) (id : Nat) : (s.reportBlanked id).restartsDue = s.restartsDue := by
  rfl

@[simp] theorem State.reportBlanked_draws (s : State) (id : Nat) : (s.reportBlanked id).draws = s.draws := by
  rfl

@[simp] theorem State.reportStep_tb (s : State) (a : Int) : (s.reportStep a).tb = s.tb := by
  rfl

@[simp] theorem State.reportStep_trig (s : State) (a : Int) : (s.reportStep a).trig = s.trig := by
  rfl

@[simp] theorem State.reportStep_thermal (s : State) (a : Int) : (s.reportStep a).thermal = s.thermal := by
  rfl

@[simp] theorem State.reportStep_energy (s : State) (a : Int) : (s.reportStep a).energy = s.energy := by
  rfl

@[simp] theorem State.reportStep_settings (s : State) (a : Int) : (s.reportStep a).settings = s.settings := by
  rfl

@[simp] theorem State.reportStep_pins (s : State) (a : Int) : (s.reportStep a).pins = s.pins := by
  rfl

@[simp] theorem State.reportStep_pending (s : State) (a : Int) : (s.reportStep a).pending = s.pending := by
  rfl

@[simp] theorem State.reportStep_front (s : State) (a : Int) : (s.reportStep a).front = s.front := by
  rfl

@[simp] theorem State.reportStep_store (s : State) (a : Int) : (s.reportStep a).store = s.store := by
  rfl

@[simp] theorem State.reportStep_alerts (s : State) (a : Int) : (s.reportStep a).alerts = s.alerts := by
  rfl

@[simp] theorem State.reportStep_restartsDue (s : State) (a : Int) : (s.reportStep a).restartsDue = s.restartsDue := by
  rfl

@[simp] theorem State.reportStep_draws (s : State) (a : Int) : (s.reportStep a).draws = s.draws := by
  rfl

@[simp] theorem State.reportClose_tb (s : State) (id : Nat) (c : EventCtx) (m n : Nat) (f i : Bool) : (s.reportClose id c m n f i).tb = s.tb := by
  rfl

@[simp] theorem State.reportClose_trig (s : State) (id : Nat) (c : EventCtx) (m n : Nat) (f i : Bool) : (s.reportClose id c m n f i).trig = s.trig := by
  rfl

@[simp] theorem State.reportClose_thermal (s : State) (id : Nat) (c : EventCtx) (m n : Nat) (f i : Bool) : (s.reportClose id c m n f i).thermal = s.thermal := by
  rfl

@[simp] theorem State.reportClose_energy (s : State) (id : Nat) (c : EventCtx) (m n : Nat) (f i : Bool) : (s.reportClose id c m n f i).energy = s.energy := by
  rfl

@[simp] theorem State.reportClose_settings (s : State) (id : Nat) (c : EventCtx) (m n : Nat) (f i : Bool) : (s.reportClose id c m n f i).settings = s.settings := by
  rfl

@[simp] theorem State.reportClose_pins (s : State) (id : Nat) (c : EventCtx) (m n : Nat) (f i : Bool) : (s.reportClose id c m n f i).pins = s.pins := by
  rfl

@[simp] theorem State.reportClose_pending (s : State) (id : Nat) (c : EventCtx) (m n : Nat) (f i : Bool) : (s.reportClose id c m n f i).pending = s.pending := by
  rfl

@[simp] theorem State.reportClose_front (s : State) (id : Nat) (c : EventCtx) (m n : Nat) (f i : Bool) : (s.reportClose id c m n f i).front = s.front := by
  rfl

@[simp] theorem State.reportClose_store (s : State) (id : Nat) (c : EventCtx) (m n : Nat) (f i : Bool) : (s.reportClose id c m n f i).store = s.store := by
  rfl

@[simp] theorem State.reportClose_alerts (s : State) (id : Nat) (c : EventCtx) (m n : Nat) (f i : Bool) : (s.reportClose id c m n f i).alerts = s.alerts := by
  rfl

@[simp] theorem State.reportClose_restartsDue (s : State) (id : Nat) (c : EventCtx) (m n : Nat) (f i : Bool) : (s.reportClose id c m n f i).restartsDue = s.restartsDue := by
  rfl

@[simp] theorem State.reportClose_draws (s : State) (id : Nat) (c : EventCtx) (m n : Nat) (f i : Bool) : (s.reportClose id c m n f i).draws = s.draws := by
  rfl

@[simp] theorem State.reportJob_tb (s : State) (id : Nat) (b : Bool) : (s.reportJob id b).tb = s.tb := by
  rfl

@[simp] theorem State.reportJob_trig (s : State) (id : Nat) (b : Bool) : (s.reportJob id b).trig = s.trig := by
  rfl

@[simp] theorem State.reportJob_thermal (s : State) (id : Nat) (b : Bool) : (s.reportJob id b).thermal = s.thermal := by
  rfl

@[simp] theorem State.reportJob_energy (s : State) (id : Nat) (b : Bool) : (s.reportJob id b).energy = s.energy := by
  rfl

@[simp] theorem State.reportJob_settings (s : State) (id : Nat) (b : Bool) : (s.reportJob id b).settings = s.settings := by
  rfl

@[simp] theorem State.reportJob_pins (s : State) (id : Nat) (b : Bool) : (s.reportJob id b).pins = s.pins := by
  rfl

@[simp] theorem State.reportJob_pending (s : State) (id : Nat) (b : Bool) : (s.reportJob id b).pending = s.pending := by
  rfl

@[simp] theorem State.reportJob_front (s : State) (id : Nat) (b : Bool) : (s.reportJob id b).front = s.front := by
  rfl

@[simp] theorem State.reportJob_store (s : State) (id : Nat) (b : Bool) : (s.reportJob id b).store = s.store := by
  rfl

@[simp] theorem State.reportJob_alerts (s : State) (id : Nat) (b : Bool) : (s.reportJob id b).alerts = s.alerts := by
  rfl

@[simp] theorem State.reportJob_restartsDue (s : State) (id : Nat) (b : Bool) : (s.reportJob id b).restartsDue = s.restartsDue := by
  rfl

@[simp] theorem State.reportJob_draws (s : State) (id : Nat) (b : Bool) : (s.reportJob id b).draws = s.draws := by
  rfl

@[simp] theorem State.reportNoCapture_tb (s : State) (id : Nat) : (s.reportNoCapture id).tb = s.tb := by
  rfl

@[simp] theorem State.reportNoCapture_trig (s : State) (id : Nat) : (s.reportNoCapture id).trig = s.trig := by
  rfl

@[simp] theorem State.reportNoCapture_thermal (s : State) (id : Nat) : (s.reportNoCapture id).thermal = s.thermal := by
  rfl

@[simp] theorem State.reportNoCapture_energy (s : State) (id : Nat) : (s.reportNoCapture id).energy = s.energy := by
  rfl

@[simp] theorem State.reportNoCapture_settings (s : State) (id : Nat) : (s.reportNoCapture id).settings = s.settings := by
  rfl

@[simp] theorem State.reportNoCapture_pins (s : State) (id : Nat) : (s.reportNoCapture id).pins = s.pins := by
  rfl

@[simp] theorem State.reportNoCapture_pending (s : State) (id : Nat) : (s.reportNoCapture id).pending = s.pending := by
  rfl

@[simp] theorem State.reportNoCapture_front (s : State) (id : Nat) : (s.reportNoCapture id).front = s.front := by
  rfl

@[simp] theorem State.reportNoCapture_store (s : State) (id : Nat) : (s.reportNoCapture id).store = s.store := by
  rfl

@[simp] theorem State.reportNoCapture_alerts (s : State) (id : Nat) : (s.reportNoCapture id).alerts = s.alerts := by
  rfl

@[simp] theorem State.reportNoCapture_restartsDue (s : State) (id : Nat) : (s.reportNoCapture id).restartsDue = s.restartsDue := by
  rfl

@[simp] theorem State.reportNoCapture_draws (s : State) (id : Nat) : (s.reportNoCapture id).draws = s.draws := by
  rfl

@[simp] theorem State.reportStamp_tb (s : State) (id : Nat) (t : Stamp) : (s.reportStamp id t).tb = s.tb := by
  rfl

@[simp] theorem State.reportStamp_trig (s : State) (id : Nat) (t : Stamp) : (s.reportStamp id t).trig = s.trig := by
  rfl

@[simp] theorem State.reportStamp_thermal (s : State) (id : Nat) (t : Stamp) : (s.reportStamp id t).thermal = s.thermal := by
  rfl

@[simp] theorem State.reportStamp_energy (s : State) (id : Nat) (t : Stamp) : (s.reportStamp id t).energy = s.energy := by
  rfl

@[simp] theorem State.reportStamp_settings (s : State) (id : Nat) (t : Stamp) : (s.reportStamp id t).settings = s.settings := by
  rfl

@[simp] theorem State.reportStamp_pins (s : State) (id : Nat) (t : Stamp) : (s.reportStamp id t).pins = s.pins := by
  rfl

@[simp] theorem State.reportStamp_pending (s : State) (id : Nat) (t : Stamp) : (s.reportStamp id t).pending = s.pending := by
  rfl

@[simp] theorem State.reportStamp_front (s : State) (id : Nat) (t : Stamp) : (s.reportStamp id t).front = s.front := by
  rfl

@[simp] theorem State.reportStamp_store (s : State) (id : Nat) (t : Stamp) : (s.reportStamp id t).store = s.store := by
  rfl

@[simp] theorem State.reportStamp_alerts (s : State) (id : Nat) (t : Stamp) : (s.reportStamp id t).alerts = s.alerts := by
  rfl

@[simp] theorem State.reportStamp_restartsDue (s : State) (id : Nat) (t : Stamp) : (s.reportStamp id t).restartsDue = s.restartsDue := by
  rfl

@[simp] theorem State.reportStamp_draws (s : State) (id : Nat) (t : Stamp) : (s.reportStamp id t).draws = s.draws := by
  rfl

@[simp] theorem State.reportBlock_tb (s : State) (id : Nat) (b : Block) : (s.reportBlock id b).tb = s.tb := by
  rfl

@[simp] theorem State.reportBlock_trig (s : State) (id : Nat) (b : Block) : (s.reportBlock id b).trig = s.trig := by
  rfl

@[simp] theorem State.reportBlock_thermal (s : State) (id : Nat) (b : Block) : (s.reportBlock id b).thermal = s.thermal := by
  rfl

@[simp] theorem State.reportBlock_energy (s : State) (id : Nat) (b : Block) : (s.reportBlock id b).energy = s.energy := by
  rfl

@[simp] theorem State.reportBlock_settings (s : State) (id : Nat) (b : Block) : (s.reportBlock id b).settings = s.settings := by
  rfl

@[simp] theorem State.reportBlock_pins (s : State) (id : Nat) (b : Block) : (s.reportBlock id b).pins = s.pins := by
  rfl

@[simp] theorem State.reportBlock_pending (s : State) (id : Nat) (b : Block) : (s.reportBlock id b).pending = s.pending := by
  rfl

@[simp] theorem State.reportBlock_front (s : State) (id : Nat) (b : Block) : (s.reportBlock id b).front = s.front := by
  rfl

@[simp] theorem State.reportBlock_store (s : State) (id : Nat) (b : Block) : (s.reportBlock id b).store = s.store := by
  rfl

@[simp] theorem State.reportBlock_alerts (s : State) (id : Nat) (b : Block) : (s.reportBlock id b).alerts = s.alerts := by
  rfl

@[simp] theorem State.reportBlock_restartsDue (s : State) (id : Nat) (b : Block) : (s.reportBlock id b).restartsDue = s.restartsDue := by
  rfl

@[simp] theorem State.reportBlock_draws (s : State) (id : Nat) (b : Block) : (s.reportBlock id b).draws = s.draws := by
  rfl

@[simp] theorem State.reportEnd_tb (s : State) (id : Nat) (o : JobEnd) : (s.reportEnd id o).tb = s.tb := by
  rfl

@[simp] theorem State.reportEnd_trig (s : State) (id : Nat) (o : JobEnd) : (s.reportEnd id o).trig = s.trig := by
  rfl

@[simp] theorem State.reportEnd_thermal (s : State) (id : Nat) (o : JobEnd) : (s.reportEnd id o).thermal = s.thermal := by
  rfl

@[simp] theorem State.reportEnd_energy (s : State) (id : Nat) (o : JobEnd) : (s.reportEnd id o).energy = s.energy := by
  rfl

@[simp] theorem State.reportEnd_settings (s : State) (id : Nat) (o : JobEnd) : (s.reportEnd id o).settings = s.settings := by
  rfl

@[simp] theorem State.reportEnd_pins (s : State) (id : Nat) (o : JobEnd) : (s.reportEnd id o).pins = s.pins := by
  rfl

@[simp] theorem State.reportEnd_pending (s : State) (id : Nat) (o : JobEnd) : (s.reportEnd id o).pending = s.pending := by
  rfl

@[simp] theorem State.reportEnd_front (s : State) (id : Nat) (o : JobEnd) : (s.reportEnd id o).front = s.front := by
  rfl

@[simp] theorem State.reportEnd_store (s : State) (id : Nat) (o : JobEnd) : (s.reportEnd id o).store = s.store := by
  rfl

@[simp] theorem State.reportEnd_alerts (s : State) (id : Nat) (o : JobEnd) : (s.reportEnd id o).alerts = s.alerts := by
  rfl

@[simp] theorem State.reportEnd_restartsDue (s : State) (id : Nat) (o : JobEnd) : (s.reportEnd id o).restartsDue = s.restartsDue := by
  rfl

@[simp] theorem State.reportEnd_draws (s : State) (id : Nat) (o : JobEnd) : (s.reportEnd id o).draws = s.draws := by
  rfl

@[simp] theorem State.unpin_tb (s : State) (id : Nat) : (s.unpin id).tb = s.tb := by
  rfl

@[simp] theorem State.unpin_trig (s : State) (id : Nat) : (s.unpin id).trig = s.trig := by
  rfl

@[simp] theorem State.unpin_thermal (s : State) (id : Nat) : (s.unpin id).thermal = s.thermal := by
  rfl

@[simp] theorem State.unpin_energy (s : State) (id : Nat) : (s.unpin id).energy = s.energy := by
  rfl

@[simp] theorem State.unpin_settings (s : State) (id : Nat) : (s.unpin id).settings = s.settings := by
  rfl

@[simp] theorem State.unpin_pins (s : State) (id : Nat) : (s.unpin id).pins = s.pins := by
  rfl

@[simp] theorem State.unpin_pending (s : State) (id : Nat) : (s.unpin id).pending = s.pending := by
  rfl

@[simp] theorem State.unpin_front (s : State) (id : Nat) : (s.unpin id).front = s.front := by
  rfl

@[simp] theorem State.unpin_store (s : State) (id : Nat) : (s.unpin id).store = s.store := by
  rfl

@[simp] theorem State.unpin_alerts (s : State) (id : Nat) : (s.unpin id).alerts = s.alerts := by
  rfl

@[simp] theorem State.unpin_restartsDue (s : State) (id : Nat) : (s.unpin id).restartsDue = s.restartsDue := by
  rfl

@[simp] theorem State.unpin_draws (s : State) (id : Nat) : (s.unpin id).draws = s.draws := by
  rfl

end Sys2Proof.Machine
end

