-- ==== Sys2Proof/Laws/FrameStore.lean ====
section
/-! SUPPORT. Which parts of the state the operations of the Waveform Store and the Capture Engine leave as they are: one
lemma for each operation and each part of the state, so that no proof unfolds an operation to learn what it does not touch. -/

namespace Sys2Proof.Machine

set_option Elab.async false

open Sys2Proof

@[simp] theorem State.updateJob_tb (s : State) (n : Nat) (f : Job → Job) : (s.updateJob n f).tb = s.tb := by
  rfl

@[simp] theorem State.updateJob_trig (s : State) (n : Nat) (f : Job → Job) : (s.updateJob n f).trig = s.trig := by
  rfl

@[simp] theorem State.updateJob_thermal (s : State) (n : Nat) (f : Job → Job) : (s.updateJob n f).thermal = s.thermal := by
  rfl

@[simp] theorem State.updateJob_energy (s : State) (n : Nat) (f : Job → Job) : (s.updateJob n f).energy = s.energy := by
  rfl

@[simp] theorem State.updateJob_settings (s : State) (n : Nat) (f : Job → Job) : (s.updateJob n f).settings = s.settings := by
  rfl

@[simp] theorem State.updateJob_pins (s : State) (n : Nat) (f : Job → Job) : (s.updateJob n f).pins = s.pins := by
  rfl

@[simp] theorem State.updateJob_pending (s : State) (n : Nat) (f : Job → Job) : (s.updateJob n f).pending = s.pending := by
  rfl

@[simp] theorem State.updateJob_front (s : State) (n : Nat) (f : Job → Job) : (s.updateJob n f).front = s.front := by
  rfl

@[simp] theorem State.updateJob_alerts (s : State) (n : Nat) (f : Job → Job) : (s.updateJob n f).alerts = s.alerts := by
  rfl

@[simp] theorem State.updateJob_cat (s : State) (n : Nat) (f : Job → Job) : (s.updateJob n f).cat = s.cat := by
  rfl

@[simp] theorem State.updateJob_restartsDue (s : State) (n : Nat) (f : Job → Job) : (s.updateJob n f).restartsDue = s.restartsDue := by
  rfl

@[simp] theorem State.updateJob_draws (s : State) (n : Nat) (f : Job → Job) : (s.updateJob n f).draws = s.draws := by
  rfl

@[simp] theorem State.settleJob_tb (s : State) (n : Nat) : (s.settleJob n).tb = s.tb := by
  simp only [State.settleJob]
  (repeat' split) <;> simp

@[simp] theorem State.settleJob_trig (s : State) (n : Nat) : (s.settleJob n).trig = s.trig := by
  simp only [State.settleJob]
  (repeat' split) <;> simp

@[simp] theorem State.settleJob_thermal (s : State) (n : Nat) : (s.settleJob n).thermal = s.thermal := by
  simp only [State.settleJob]
  (repeat' split) <;> simp

@[simp] theorem State.settleJob_energy (s : State) (n : Nat) : (s.settleJob n).energy = s.energy := by
  simp only [State.settleJob]
  (repeat' split) <;> simp

@[simp] theorem State.settleJob_settings (s : State) (n : Nat) : (s.settleJob n).settings = s.settings := by
  simp only [State.settleJob]
  (repeat' split) <;> simp

@[simp] theorem State.settleJob_pins (s : State) (n : Nat) : (s.settleJob n).pins = s.pins := by
  simp only [State.settleJob]
  (repeat' split) <;> simp

@[simp] theorem State.settleJob_pending (s : State) (n : Nat) : (s.settleJob n).pending = s.pending := by
  simp only [State.settleJob]
  (repeat' split) <;> simp

@[simp] theorem State.settleJob_front (s : State) (n : Nat) : (s.settleJob n).front = s.front := by
  simp only [State.settleJob]
  (repeat' split) <;> simp

@[simp] theorem State.settleJob_restartsDue (s : State) (n : Nat) : (s.settleJob n).restartsDue = s.restartsDue := by
  simp only [State.settleJob]
  (repeat' split) <;> simp

@[simp] theorem State.settleJob_draws (s : State) (n : Nat) : (s.settleJob n).draws = s.draws := by
  simp only [State.settleJob]
  (repeat' split) <;> simp

theorem State.addRecord_tb (s : State) (mk : Nat → Record) (t : State) (n : Nat) (h : s.addRecord mk = some (t, n)) : t.tb = s.tb := by
  unfold State.addRecord at h
  split at h
  · cases h; rfl
  · cases h

theorem State.addRecord_trig (s : State) (mk : Nat → Record) (t : State) (n : Nat) (h : s.addRecord mk = some (t, n)) : t.trig = s.trig := by
  unfold State.addRecord at h
  split at h
  · cases h; rfl
  · cases h

theorem State.addRecord_thermal (s : State) (mk : Nat → Record) (t : State) (n : Nat) (h : s.addRecord mk = some (t, n)) : t.thermal = s.thermal := by
  unfold State.addRecord at h
  split at h
  · cases h; rfl
  · cases h

theorem State.addRecord_energy (s : State) (mk : Nat → Record) (t : State) (n : Nat) (h : s.addRecord mk = some (t, n)) : t.energy = s.energy := by
  unfold State.addRecord at h
  split at h
  · cases h; rfl
  · cases h

theorem State.addRecord_settings (s : State) (mk : Nat → Record) (t : State) (n : Nat) (h : s.addRecord mk = some (t, n)) : t.settings = s.settings := by
  unfold State.addRecord at h
  split at h
  · cases h; rfl
  · cases h

theorem State.addRecord_pins (s : State) (mk : Nat → Record) (t : State) (n : Nat) (h : s.addRecord mk = some (t, n)) : t.pins = s.pins := by
  unfold State.addRecord at h
  split at h
  · cases h; rfl
  · cases h

theorem State.addRecord_pending (s : State) (mk : Nat → Record) (t : State) (n : Nat) (h : s.addRecord mk = some (t, n)) : t.pending = s.pending := by
  unfold State.addRecord at h
  split at h
  · cases h; rfl
  · cases h

theorem State.addRecord_front (s : State) (mk : Nat → Record) (t : State) (n : Nat) (h : s.addRecord mk = some (t, n)) : t.front = s.front := by
  unfold State.addRecord at h
  split at h
  · cases h; rfl
  · cases h

theorem State.addRecord_store (s : State) (mk : Nat → Record) (t : State) (n : Nat) (h : s.addRecord mk = some (t, n)) : t.store = s.store := by
  unfold State.addRecord at h
  split at h
  · cases h; rfl
  · cases h

theorem State.addRecord_alerts (s : State) (mk : Nat → Record) (t : State) (n : Nat) (h : s.addRecord mk = some (t, n)) : t.alerts = s.alerts := by
  unfold State.addRecord at h
  split at h
  · cases h; rfl
  · cases h

theorem State.addRecord_restartsDue (s : State) (mk : Nat → Record) (t : State) (n : Nat) (h : s.addRecord mk = some (t, n)) : t.restartsDue = s.restartsDue := by
  unfold State.addRecord at h
  split at h
  · cases h; rfl
  · cases h

theorem State.addRecord_draws (s : State) (mk : Nat → Record) (t : State) (n : Nat) (h : s.addRecord mk = some (t, n)) : t.draws = s.draws := by
  unfold State.addRecord at h
  split at h
  · cases h; rfl
  · cases h

theorem State.pin_tb (s : State) (id : Nat) (t : State) (h : s.pin id = some t) : t.tb = s.tb := by
  unfold State.pin at h
  split at h
  · split at h
    · cases h
    · cases h; simp
  · cases h

theorem State.pin_trig (s : State) (id : Nat) (t : State) (h : s.pin id = some t) : t.trig = s.trig := by
  unfold State.pin at h
  split at h
  · split at h
    · cases h
    · cases h; simp
  · cases h

theorem State.pin_thermal (s : State) (id : Nat) (t : State) (h : s.pin id = some t) : t.thermal = s.thermal := by
  unfold State.pin at h
  split at h
  · split at h
    · cases h
    · cases h; simp
  · cases h

theorem State.pin_energy (s : State) (id : Nat) (t : State) (h : s.pin id = some t) : t.energy = s.energy := by
  unfold State.pin at h
  split at h
  · split at h
    · cases h
    · cases h; simp
  · cases h

theorem State.pin_settings (s : State) (id : Nat) (t : State) (h : s.pin id = some t) : t.settings = s.settings := by
  unfold State.pin at h
  split at h
  · split at h
    · cases h
    · cases h; simp
  · cases h

theorem State.pin_pins (s : State) (id : Nat) (t : State) (h : s.pin id = some t) : t.pins = s.pins := by
  unfold State.pin at h
  split at h
  · split at h
    · cases h
    · cases h; simp
  · cases h

theorem State.pin_pending (s : State) (id : Nat) (t : State) (h : s.pin id = some t) : t.pending = s.pending := by
  unfold State.pin at h
  split at h
  · split at h
    · cases h
    · cases h; simp
  · cases h

theorem State.pin_front (s : State) (id : Nat) (t : State) (h : s.pin id = some t) : t.front = s.front := by
  unfold State.pin at h
  split at h
  · split at h
    · cases h
    · cases h; simp
  · cases h

theorem State.pin_store (s : State) (id : Nat) (t : State) (h : s.pin id = some t) : t.store = s.store := by
  unfold State.pin at h
  split at h
  · split at h
    · cases h
    · cases h; simp
  · cases h

theorem State.pin_alerts (s : State) (id : Nat) (t : State) (h : s.pin id = some t) : t.alerts = s.alerts := by
  unfold State.pin at h
  split at h
  · split at h
    · cases h
    · cases h; simp
  · cases h

theorem State.pin_restartsDue (s : State) (id : Nat) (t : State) (h : s.pin id = some t) : t.restartsDue = s.restartsDue := by
  unfold State.pin at h
  split at h
  · split at h
    · cases h
    · cases h; simp
  · cases h

theorem State.pin_draws (s : State) (id : Nat) (t : State) (h : s.pin id = some t) : t.draws = s.draws := by
  unfold State.pin at h
  split at h
  · split at h
    · cases h
    · cases h; simp
  · cases h

@[simp] theorem State.handOutTo_tb (s : State) (l : List Nat) : (s.handOutTo l).tb = s.tb := by
  induction l generalizing s with
  | nil => rfl
  | cons _ _ ih =>
    simp only [State.handOutTo, ih]
    (repeat' split) <;> simp

@[simp] theorem State.handOutTo_trig (s : State) (l : List Nat) : (s.handOutTo l).trig = s.trig := by
  induction l generalizing s with
  | nil => rfl
  | cons _ _ ih =>
    simp only [State.handOutTo, ih]
    (repeat' split) <;> simp

@[simp] theorem State.handOutTo_thermal (s : State) (l : List Nat) : (s.handOutTo l).thermal = s.thermal := by
  induction l generalizing s with
  | nil => rfl
  | cons _ _ ih =>
    simp only [State.handOutTo, ih]
    (repeat' split) <;> simp

@[simp] theorem State.handOutTo_energy (s : State) (l : List Nat) : (s.handOutTo l).energy = s.energy := by
  induction l generalizing s with
  | nil => rfl
  | cons _ _ ih =>
    simp only [State.handOutTo, ih]
    (repeat' split) <;> simp

@[simp] theorem State.handOutTo_settings (s : State) (l : List Nat) : (s.handOutTo l).settings = s.settings := by
  induction l generalizing s with
  | nil => rfl
  | cons _ _ ih =>
    simp only [State.handOutTo, ih]
    (repeat' split) <;> simp

@[simp] theorem State.handOutTo_pins (s : State) (l : List Nat) : (s.handOutTo l).pins = s.pins := by
  induction l generalizing s with
  | nil => rfl
  | cons _ _ ih =>
    simp only [State.handOutTo, ih]
    (repeat' split) <;> simp

@[simp] theorem State.handOutTo_pending (s : State) (l : List Nat) : (s.handOutTo l).pending = s.pending := by
  induction l generalizing s with
  | nil => rfl
  | cons _ _ ih =>
    simp only [State.handOutTo, ih]
    (repeat' split) <;> simp

@[simp] theorem State.handOutTo_front (s : State) (l : List Nat) : (s.handOutTo l).front = s.front := by
  induction l generalizing s with
  | nil => rfl
  | cons _ _ ih =>
    simp only [State.handOutTo, ih]
    (repeat' split) <;> simp

@[simp] theorem State.handOutTo_restartsDue (s : State) (l : List Nat) : (s.handOutTo l).restartsDue = s.restartsDue := by
  induction l generalizing s with
  | nil => rfl
  | cons _ _ ih =>
    simp only [State.handOutTo, ih]
    (repeat' split) <;> simp

@[simp] theorem State.handOutTo_draws (s : State) (l : List Nat) : (s.handOutTo l).draws = s.draws := by
  induction l generalizing s with
  | nil => rfl
  | cons _ _ ih =>
    simp only [State.handOutTo, ih]
    (repeat' split) <;> simp

@[simp] theorem State.joinBlocks_tb (s : State) (l : List Nat) : (s.joinBlocks l).tb = s.tb := by
  simp [State.joinBlocks]

@[simp] theorem State.joinBlocks_trig (s : State) (l : List Nat) : (s.joinBlocks l).trig = s.trig := by
  simp [State.joinBlocks]

@[simp] theorem State.joinBlocks_thermal (s : State) (l : List Nat) : (s.joinBlocks l).thermal = s.thermal := by
  simp [State.joinBlocks]

@[simp] theorem State.joinBlocks_energy (s : State) (l : List Nat) : (s.joinBlocks l).energy = s.energy := by
  simp [State.joinBlocks]

@[simp] theorem State.joinBlocks_settings (s : State) (l : List Nat) : (s.joinBlocks l).settings = s.settings := by
  simp [State.joinBlocks]

@[simp] theorem State.joinBlocks_pins (s : State) (l : List Nat) : (s.joinBlocks l).pins = s.pins := by
  simp [State.joinBlocks]

@[simp] theorem State.joinBlocks_pending (s : State) (l : List Nat) : (s.joinBlocks l).pending = s.pending := by
  simp [State.joinBlocks]

@[simp] theorem State.joinBlocks_front (s : State) (l : List Nat) : (s.joinBlocks l).front = s.front := by
  simp [State.joinBlocks]

@[simp] theorem State.joinBlocks_restartsDue (s : State) (l : List Nat) : (s.joinBlocks l).restartsDue = s.restartsDue := by
  simp [State.joinBlocks]

@[simp] theorem State.joinBlocks_draws (s : State) (l : List Nat) : (s.joinBlocks l).draws = s.draws := by
  simp [State.joinBlocks]

@[simp] theorem State.endJob_tb (s : State) (n : Nat) (o : JobEnd) : (s.endJob n o).tb = s.tb := by
  simp only [State.endJob]
  (repeat' split) <;> simp

@[simp] theorem State.endJob_trig (s : State) (n : Nat) (o : JobEnd) : (s.endJob n o).trig = s.trig := by
  simp only [State.endJob]
  (repeat' split) <;> simp

@[simp] theorem State.endJob_thermal (s : State) (n : Nat) (o : JobEnd) : (s.endJob n o).thermal = s.thermal := by
  simp only [State.endJob]
  (repeat' split) <;> simp

@[simp] theorem State.endJob_energy (s : State) (n : Nat) (o : JobEnd) : (s.endJob n o).energy = s.energy := by
  simp only [State.endJob]
  (repeat' split) <;> simp

@[simp] theorem State.endJob_settings (s : State) (n : Nat) (o : JobEnd) : (s.endJob n o).settings = s.settings := by
  simp only [State.endJob]
  (repeat' split) <;> simp

@[simp] theorem State.endJob_pins (s : State) (n : Nat) (o : JobEnd) : (s.endJob n o).pins = s.pins := by
  simp only [State.endJob]
  (repeat' split) <;> simp

@[simp] theorem State.endJob_pending (s : State) (n : Nat) (o : JobEnd) : (s.endJob n o).pending = s.pending := by
  simp only [State.endJob]
  (repeat' split) <;> simp

@[simp] theorem State.endJob_front (s : State) (n : Nat) (o : JobEnd) : (s.endJob n o).front = s.front := by
  simp only [State.endJob]
  (repeat' split) <;> simp

@[simp] theorem State.endJob_restartsDue (s : State) (n : Nat) (o : JobEnd) : (s.endJob n o).restartsDue = s.restartsDue := by
  simp only [State.endJob]
  (repeat' split) <;> simp

@[simp] theorem State.endJob_draws (s : State) (n : Nat) (o : JobEnd) : (s.endJob n o).draws = s.draws := by
  simp only [State.endJob]
  (repeat' split) <;> simp

@[simp] theorem State.wakeJobs_tb (s : State) (l : List Nat) : (s.wakeJobs l).tb = s.tb := by
  induction l generalizing s with
  | nil => rfl
  | cons _ _ ih =>
    simp only [State.wakeJobs, ih]
    (repeat' split) <;> simp

@[simp] theorem State.wakeJobs_trig (s : State) (l : List Nat) : (s.wakeJobs l).trig = s.trig := by
  induction l generalizing s with
  | nil => rfl
  | cons _ _ ih =>
    simp only [State.wakeJobs, ih]
    (repeat' split) <;> simp

@[simp] theorem State.wakeJobs_thermal (s : State) (l : List Nat) : (s.wakeJobs l).thermal = s.thermal := by
  induction l generalizing s with
  | nil => rfl
  | cons _ _ ih =>
    simp only [State.wakeJobs, ih]
    (repeat' split) <;> simp

@[simp] theorem State.wakeJobs_energy (s : State) (l : List Nat) : (s.wakeJobs l).energy = s.energy := by
  induction l generalizing s with
  | nil => rfl
  | cons _ _ ih =>
    simp only [State.wakeJobs, ih]
    (repeat' split) <;> simp

@[simp] theorem State.wakeJobs_settings (s : State) (l : List Nat) : (s.wakeJobs l).settings = s.settings := by
  induction l generalizing s with
  | nil => rfl
  | cons _ _ ih =>
    simp only [State.wakeJobs, ih]
    (repeat' split) <;> simp

@[simp] theorem State.wakeJobs_pins (s : State) (l : List Nat) : (s.wakeJobs l).pins = s.pins := by
  induction l generalizing s with
  | nil => rfl
  | cons _ _ ih =>
    simp only [State.wakeJobs, ih]
    (repeat' split) <;> simp

@[simp] theorem State.wakeJobs_pending (s : State) (l : List Nat) : (s.wakeJobs l).pending = s.pending := by
  induction l generalizing s with
  | nil => rfl
  | cons _ _ ih =>
    simp only [State.wakeJobs, ih]
    (repeat' split) <;> simp

@[simp] theorem State.wakeJobs_front (s : State) (l : List Nat) : (s.wakeJobs l).front = s.front := by
  induction l generalizing s with
  | nil => rfl
  | cons _ _ ih =>
    simp only [State.wakeJobs, ih]
    (repeat' split) <;> simp

@[simp] theorem State.wakeJobs_restartsDue (s : State) (l : List Nat) : (s.wakeJobs l).restartsDue = s.restartsDue := by
  induction l generalizing s with
  | nil => rfl
  | cons _ _ ih =>
    simp only [State.wakeJobs, ih]
    (repeat' split) <;> simp

@[simp] theorem State.wakeJobs_draws (s : State) (l : List Nat) : (s.wakeJobs l).draws = s.draws := by
  induction l generalizing s with
  | nil => rfl
  | cons _ _ ih =>
    simp only [State.wakeJobs, ih]
    (repeat' split) <;> simp

@[simp] theorem State.lapJobs_tb (s : State) (w : Nat) (l : List Nat) : (s.lapJobs w l).tb = s.tb := by
  induction l generalizing s with
  | nil => rfl
  | cons _ _ ih =>
    simp only [State.lapJobs, ih]
    (repeat' split) <;> simp

@[simp] theorem State.lapJobs_trig (s : State) (w : Nat) (l : List Nat) : (s.lapJobs w l).trig = s.trig := by
  induction l generalizing s with
  | nil => rfl
  | cons _ _ ih =>
    simp only [State.lapJobs, ih]
    (repeat' split) <;> simp

@[simp] theorem State.lapJobs_thermal (s : State) (w : Nat) (l : List Nat) : (s.lapJobs w l).thermal = s.thermal := by
  induction l generalizing s with
  | nil => rfl
  | cons _ _ ih =>
    simp only [State.lapJobs, ih]
    (repeat' split) <;> simp

@[simp] theorem State.lapJobs_energy (s : State) (w : Nat) (l : List Nat) : (s.lapJobs w l).energy = s.energy := by
  induction l generalizing s with
  | nil => rfl
  | cons _ _ ih =>
    simp only [State.lapJobs, ih]
    (repeat' split) <;> simp

@[simp] theorem State.lapJobs_settings (s : State) (w : Nat) (l : List Nat) : (s.lapJobs w l).settings = s.settings := by
  induction l generalizing s with
  | nil => rfl
  | cons _ _ ih =>
    simp only [State.lapJobs, ih]
    (repeat' split) <;> simp

@[simp] theorem State.lapJobs_pins (s : State) (w : Nat) (l : List Nat) : (s.lapJobs w l).pins = s.pins := by
  induction l generalizing s with
  | nil => rfl
  | cons _ _ ih =>
    simp only [State.lapJobs, ih]
    (repeat' split) <;> simp

@[simp] theorem State.lapJobs_pending (s : State) (w : Nat) (l : List Nat) : (s.lapJobs w l).pending = s.pending := by
  induction l generalizing s with
  | nil => rfl
  | cons _ _ ih =>
    simp only [State.lapJobs, ih]
    (repeat' split) <;> simp

@[simp] theorem State.lapJobs_front (s : State) (w : Nat) (l : List Nat) : (s.lapJobs w l).front = s.front := by
  induction l generalizing s with
  | nil => rfl
  | cons _ _ ih =>
    simp only [State.lapJobs, ih]
    (repeat' split) <;> simp

@[simp] theorem State.lapJobs_restartsDue (s : State) (w : Nat) (l : List Nat) : (s.lapJobs w l).restartsDue = s.restartsDue := by
  induction l generalizing s with
  | nil => rfl
  | cons _ _ ih =>
    simp only [State.lapJobs, ih]
    (repeat' split) <;> simp

@[simp] theorem State.lapJobs_draws (s : State) (w : Nat) (l : List Nat) : (s.lapJobs w l).draws = s.draws := by
  induction l generalizing s with
  | nil => rfl
  | cons _ _ ih =>
    simp only [State.lapJobs, ih]
    (repeat' split) <;> simp

@[simp] theorem State.writeRing_tb (s : State) (r : SetRec) : (s.writeRing r).tb = s.tb := by
  simp only [State.writeRing]
  split <;> simp

@[simp] theorem State.writeRing_trig (s : State) (r : SetRec) : (s.writeRing r).trig = s.trig := by
  simp only [State.writeRing]
  split <;> simp

@[simp] theorem State.writeRing_thermal (s : State) (r : SetRec) : (s.writeRing r).thermal = s.thermal := by
  simp only [State.writeRing]
  split <;> simp

@[simp] theorem State.writeRing_energy (s : State) (r : SetRec) : (s.writeRing r).energy = s.energy := by
  simp only [State.writeRing]
  split <;> simp

@[simp] theorem State.writeRing_settings (s : State) (r : SetRec) : (s.writeRing r).settings = s.settings := by
  simp only [State.writeRing]
  split <;> simp

@[simp] theorem State.writeRing_pins (s : State) (r : SetRec) : (s.writeRing r).pins = s.pins := by
  simp only [State.writeRing]
  split <;> simp

@[simp] theorem State.writeRing_pending (s : State) (r : SetRec) : (s.writeRing r).pending = s.pending := by
  simp only [State.writeRing]
  split <;> simp

@[simp] theorem State.writeRing_restartsDue (s : State) (r : SetRec) : (s.writeRing r).restartsDue = s.restartsDue := by
  simp only [State.writeRing]
  split <;> simp

@[simp] theorem State.writeRing_draws (s : State) (r : SetRec) : (s.writeRing r).draws = s.draws := by
  simp only [State.writeRing]
  split <;> simp

@[simp] theorem State.addJob_tb (s : State) (j : Job) (b : Bool) : (s.addJob j b).tb = s.tb := by
  simp [State.addJob]

@[simp] theorem State.addJob_trig (s : State) (j : Job) (b : Bool) : (s.addJob j b).trig = s.trig := by
  simp [State.addJob]

@[simp] theorem State.addJob_thermal (s : State) (j : Job) (b : Bool) : (s.addJob j b).thermal = s.thermal := by
  simp [State.addJob]

@[simp] theorem State.addJob_energy (s : State) (j : Job) (b : Bool) : (s.addJob j b).energy = s.energy := by
  simp [State.addJob]

@[simp] theorem State.addJob_settings (s : State) (j : Job) (b : Bool) : (s.addJob j b).settings = s.settings := by
  simp [State.addJob]

@[simp] theorem State.addJob_pins (s : State) (j : Job) (b : Bool) : (s.addJob j b).pins = s.pins := by
  simp [State.addJob]

@[simp] theorem State.addJob_pending (s : State) (j : Job) (b : Bool) : (s.addJob j b).pending = s.pending := by
  simp [State.addJob]

@[simp] theorem State.addJob_front (s : State) (j : Job) (b : Bool) : (s.addJob j b).front = s.front := by
  simp [State.addJob]

@[simp] theorem State.addJob_restartsDue (s : State) (j : Job) (b : Bool) : (s.addJob j b).restartsDue = s.restartsDue := by
  simp [State.addJob]

@[simp] theorem State.addJob_draws (s : State) (j : Job) (b : Bool) : (s.addJob j b).draws = s.draws := by
  simp [State.addJob]

@[simp] theorem State.createEventJob_tb (s : State) (r o : Nat) : (s.createEventJob r o).tb = s.tb := by
  simp only [State.createEventJob]
  (repeat' split) <;> simp

@[simp] theorem State.createEventJob_trig (s : State) (r o : Nat) : (s.createEventJob r o).trig = s.trig := by
  simp only [State.createEventJob]
  (repeat' split) <;> simp

@[simp] theorem State.createEventJob_thermal (s : State) (r o : Nat) : (s.createEventJob r o).thermal = s.thermal := by
  simp only [State.createEventJob]
  (repeat' split) <;> simp

@[simp] theorem State.createEventJob_energy (s : State) (r o : Nat) : (s.createEventJob r o).energy = s.energy := by
  simp only [State.createEventJob]
  (repeat' split) <;> simp

@[simp] theorem State.createEventJob_settings (s : State) (r o : Nat) : (s.createEventJob r o).settings = s.settings := by
  simp only [State.createEventJob]
  (repeat' split) <;> simp

@[simp] theorem State.createEventJob_pins (s : State) (r o : Nat) : (s.createEventJob r o).pins = s.pins := by
  simp only [State.createEventJob]
  (repeat' split) <;> simp

@[simp] theorem State.createEventJob_pending (s : State) (r o : Nat) : (s.createEventJob r o).pending = s.pending := by
  simp only [State.createEventJob]
  (repeat' split) <;> simp

@[simp] theorem State.createEventJob_front (s : State) (r o : Nat) : (s.createEventJob r o).front = s.front := by
  simp only [State.createEventJob]
  (repeat' split) <;> simp

@[simp] theorem State.createEventJob_restartsDue (s : State) (r o : Nat) : (s.createEventJob r o).restartsDue = s.restartsDue := by
  simp only [State.createEventJob]
  (repeat' split) <;> simp

@[simp] theorem State.createEventJob_draws (s : State) (r o : Nat) : (s.createEventJob r o).draws = s.draws := by
  simp only [State.createEventJob]
  (repeat' split) <;> simp

@[simp] theorem State.handEnd_tb (s : State) (r e : Nat) : (s.handEnd r e).tb = s.tb := by
  simp only [State.handEnd]
  (repeat' split) <;> simp

@[simp] theorem State.handEnd_trig (s : State) (r e : Nat) : (s.handEnd r e).trig = s.trig := by
  simp only [State.handEnd]
  (repeat' split) <;> simp

@[simp] theorem State.handEnd_thermal (s : State) (r e : Nat) : (s.handEnd r e).thermal = s.thermal := by
  simp only [State.handEnd]
  (repeat' split) <;> simp

@[simp] theorem State.handEnd_energy (s : State) (r e : Nat) : (s.handEnd r e).energy = s.energy := by
  simp only [State.handEnd]
  (repeat' split) <;> simp

@[simp] theorem State.handEnd_settings (s : State) (r e : Nat) : (s.handEnd r e).settings = s.settings := by
  simp only [State.handEnd]
  (repeat' split) <;> simp

@[simp] theorem State.handEnd_pins (s : State) (r e : Nat) : (s.handEnd r e).pins = s.pins := by
  simp only [State.handEnd]
  (repeat' split) <;> simp

@[simp] theorem State.handEnd_pending (s : State) (r e : Nat) : (s.handEnd r e).pending = s.pending := by
  simp only [State.handEnd]
  (repeat' split) <;> simp

@[simp] theorem State.handEnd_front (s : State) (r e : Nat) : (s.handEnd r e).front = s.front := by
  simp only [State.handEnd]
  (repeat' split) <;> simp

@[simp] theorem State.handEnd_restartsDue (s : State) (r e : Nat) : (s.handEnd r e).restartsDue = s.restartsDue := by
  simp only [State.handEnd]
  (repeat' split) <;> simp

@[simp] theorem State.handEnd_draws (s : State) (r e : Nat) : (s.handEnd r e).draws = s.draws := by
  simp only [State.handEnd]
  (repeat' split) <;> simp

@[simp] theorem State.postFull_tb (s : State) (j : Job) : (s.postFull j).tb = s.tb := by
  simp only [State.postFull]
  (repeat' split) <;> simp

@[simp] theorem State.postFull_trig (s : State) (j : Job) : (s.postFull j).trig = s.trig := by
  simp only [State.postFull]
  (repeat' split) <;> simp

@[simp] theorem State.postFull_thermal (s : State) (j : Job) : (s.postFull j).thermal = s.thermal := by
  simp only [State.postFull]
  (repeat' split) <;> simp

@[simp] theorem State.postFull_energy (s : State) (j : Job) : (s.postFull j).energy = s.energy := by
  simp only [State.postFull]
  (repeat' split) <;> simp

@[simp] theorem State.postFull_settings (s : State) (j : Job) : (s.postFull j).settings = s.settings := by
  simp only [State.postFull]
  (repeat' split) <;> simp

@[simp] theorem State.postFull_pins (s : State) (j : Job) : (s.postFull j).pins = s.pins := by
  simp only [State.postFull]
  (repeat' split) <;> simp

@[simp] theorem State.postFull_pending (s : State) (j : Job) : (s.postFull j).pending = s.pending := by
  simp only [State.postFull]
  (repeat' split) <;> simp

@[simp] theorem State.postFull_front (s : State) (j : Job) : (s.postFull j).front = s.front := by
  simp only [State.postFull]
  (repeat' split) <;> simp

@[simp] theorem State.postFull_restartsDue (s : State) (j : Job) : (s.postFull j).restartsDue = s.restartsDue := by
  simp only [State.postFull]
  (repeat' split) <;> simp

@[simp] theorem State.postFull_draws (s : State) (j : Job) : (s.postFull j).draws = s.draws := by
  simp only [State.postFull]
  (repeat' split) <;> simp

@[simp] theorem State.finishBurst_tb (s : State) (n : Nat) : (s.finishBurst n).tb = s.tb := by
  simp only [State.finishBurst]
  (repeat' split) <;> simp

@[simp] theorem State.finishBurst_trig (s : State) (n : Nat) : (s.finishBurst n).trig = s.trig := by
  simp only [State.finishBurst]
  (repeat' split) <;> simp

@[simp] theorem State.finishBurst_thermal (s : State) (n : Nat) : (s.finishBurst n).thermal = s.thermal := by
  simp only [State.finishBurst]
  (repeat' split) <;> simp

@[simp] theorem State.finishBurst_energy (s : State) (n : Nat) : (s.finishBurst n).energy = s.energy := by
  simp only [State.finishBurst]
  (repeat' split) <;> simp

@[simp] theorem State.finishBurst_settings (s : State) (n : Nat) : (s.finishBurst n).settings = s.settings := by
  simp only [State.finishBurst]
  (repeat' split) <;> simp

@[simp] theorem State.finishBurst_pins (s : State) (n : Nat) : (s.finishBurst n).pins = s.pins := by
  simp only [State.finishBurst]
  (repeat' split) <;> simp

@[simp] theorem State.finishBurst_pending (s : State) (n : Nat) : (s.finishBurst n).pending = s.pending := by
  simp only [State.finishBurst]
  (repeat' split) <;> simp

@[simp] theorem State.finishBurst_front (s : State) (n : Nat) : (s.finishBurst n).front = s.front := by
  simp only [State.finishBurst]
  (repeat' split) <;> simp

@[simp] theorem State.finishBurst_restartsDue (s : State) (n : Nat) : (s.finishBurst n).restartsDue = s.restartsDue := by
  simp only [State.finishBurst]
  (repeat' split) <;> simp

@[simp] theorem State.finishBurst_draws (s : State) (n : Nat) : (s.finishBurst n).draws = s.draws := by
  simp only [State.finishBurst]
  (repeat' split) <;> simp

@[simp] theorem State.captureBurst_tb (s : State) : (s.captureBurst).tb = s.tb := by
  simp only [State.captureBurst]
  (repeat' split) <;> simp

@[simp] theorem State.captureBurst_trig (s : State) : (s.captureBurst).trig = s.trig := by
  simp only [State.captureBurst]
  (repeat' split) <;> simp

@[simp] theorem State.captureBurst_thermal (s : State) : (s.captureBurst).thermal = s.thermal := by
  simp only [State.captureBurst]
  (repeat' split) <;> simp

@[simp] theorem State.captureBurst_energy (s : State) : (s.captureBurst).energy = s.energy := by
  simp only [State.captureBurst]
  (repeat' split) <;> simp

@[simp] theorem State.captureBurst_settings (s : State) : (s.captureBurst).settings = s.settings := by
  simp only [State.captureBurst]
  (repeat' split) <;> simp

@[simp] theorem State.captureBurst_pins (s : State) : (s.captureBurst).pins = s.pins := by
  simp only [State.captureBurst]
  (repeat' split) <;> simp

@[simp] theorem State.captureBurst_pending (s : State) : (s.captureBurst).pending = s.pending := by
  simp only [State.captureBurst]
  (repeat' split) <;> simp

@[simp] theorem State.captureBurst_front (s : State) : (s.captureBurst).front = s.front := by
  simp only [State.captureBurst]
  (repeat' split) <;> simp

@[simp] theorem State.captureBurst_restartsDue (s : State) : (s.captureBurst).restartsDue = s.restartsDue := by
  simp only [State.captureBurst]
  (repeat' split) <;> simp

@[simp] theorem State.captureBurst_draws (s : State) : (s.captureBurst).draws = s.draws := by
  simp only [State.captureBurst]
  (repeat' split) <;> simp

@[simp] theorem State.startRead_tb (s : State) (p : Port) (i n o c : Nat) (b : Block) : (s.startRead p i n o c b).tb = s.tb := by
  rfl

@[simp] theorem State.startRead_trig (s : State) (p : Port) (i n o c : Nat) (b : Block) : (s.startRead p i n o c b).trig = s.trig := by
  rfl

@[simp] theorem State.startRead_thermal (s : State) (p : Port) (i n o c : Nat) (b : Block) : (s.startRead p i n o c b).thermal = s.thermal := by
  rfl

@[simp] theorem State.startRead_energy (s : State) (p : Port) (i n o c : Nat) (b : Block) : (s.startRead p i n o c b).energy = s.energy := by
  rfl

@[simp] theorem State.startRead_settings (s : State) (p : Port) (i n o c : Nat) (b : Block) : (s.startRead p i n o c b).settings = s.settings := by
  rfl

@[simp] theorem State.startRead_pins (s : State) (p : Port) (i n o c : Nat) (b : Block) : (s.startRead p i n o c b).pins = s.pins := by
  rfl

@[simp] theorem State.startRead_pending (s : State) (p : Port) (i n o c : Nat) (b : Block) : (s.startRead p i n o c b).pending = s.pending := by
  rfl

@[simp] theorem State.startRead_front (s : State) (p : Port) (i n o c : Nat) (b : Block) : (s.startRead p i n o c b).front = s.front := by
  rfl

@[simp] theorem State.startRead_restartsDue (s : State) (p : Port) (i n o c : Nat) (b : Block) : (s.startRead p i n o c b).restartsDue = s.restartsDue := by
  rfl

@[simp] theorem State.startRead_draws (s : State) (p : Port) (i n o c : Nat) (b : Block) : (s.startRead p i n o c b).draws = s.draws := by
  rfl

@[simp] theorem State.readBurst_tb (s : State) (p : Port) (r : Read) : (s.readBurst p r).tb = s.tb := by
  rfl

@[simp] theorem State.readBurst_trig (s : State) (p : Port) (r : Read) : (s.readBurst p r).trig = s.trig := by
  rfl

@[simp] theorem State.readBurst_thermal (s : State) (p : Port) (r : Read) : (s.readBurst p r).thermal = s.thermal := by
  rfl

@[simp] theorem State.readBurst_energy (s : State) (p : Port) (r : Read) : (s.readBurst p r).energy = s.energy := by
  rfl

@[simp] theorem State.readBurst_settings (s : State) (p : Port) (r : Read) : (s.readBurst p r).settings = s.settings := by
  rfl

@[simp] theorem State.readBurst_pins (s : State) (p : Port) (r : Read) : (s.readBurst p r).pins = s.pins := by
  rfl

@[simp] theorem State.readBurst_pending (s : State) (p : Port) (r : Read) : (s.readBurst p r).pending = s.pending := by
  rfl

@[simp] theorem State.readBurst_front (s : State) (p : Port) (r : Read) : (s.readBurst p r).front = s.front := by
  rfl

@[simp] theorem State.readBurst_alerts (s : State) (p : Port) (r : Read) : (s.readBurst p r).alerts = s.alerts := by
  rfl

@[simp] theorem State.readBurst_cat (s : State) (p : Port) (r : Read) : (s.readBurst p r).cat = s.cat := by
  rfl

@[simp] theorem State.readBurst_restartsDue (s : State) (p : Port) (r : Read) : (s.readBurst p r).restartsDue = s.restartsDue := by
  rfl

@[simp] theorem State.readBurst_draws (s : State) (p : Port) (r : Read) : (s.readBurst p r).draws = s.draws := by
  rfl

@[simp] theorem State.endRead_tb (s : State) (p : Port) : (s.endRead p).tb = s.tb := by
  simp only [State.endRead]
  split <;> simp

@[simp] theorem State.endRead_trig (s : State) (p : Port) : (s.endRead p).trig = s.trig := by
  simp only [State.endRead]
  split <;> simp

@[simp] theorem State.endRead_thermal (s : State) (p : Port) : (s.endRead p).thermal = s.thermal := by
  simp only [State.endRead]
  split <;> simp

@[simp] theorem State.endRead_energy (s : State) (p : Port) : (s.endRead p).energy = s.energy := by
  simp only [State.endRead]
  split <;> simp

@[simp] theorem State.endRead_settings (s : State) (p : Port) : (s.endRead p).settings = s.settings := by
  simp only [State.endRead]
  split <;> simp

@[simp] theorem State.endRead_pins (s : State) (p : Port) : (s.endRead p).pins = s.pins := by
  simp only [State.endRead]
  split <;> simp

@[simp] theorem State.endRead_pending (s : State) (p : Port) : (s.endRead p).pending = s.pending := by
  simp only [State.endRead]
  split <;> simp

@[simp] theorem State.endRead_front (s : State) (p : Port) : (s.endRead p).front = s.front := by
  simp only [State.endRead]
  split <;> simp

@[simp] theorem State.endRead_alerts (s : State) (p : Port) : (s.endRead p).alerts = s.alerts := by
  simp only [State.endRead]
  split <;> simp

@[simp] theorem State.endRead_restartsDue (s : State) (p : Port) : (s.endRead p).restartsDue = s.restartsDue := by
  simp only [State.endRead]
  split <;> simp

@[simp] theorem State.endRead_draws (s : State) (p : Port) : (s.endRead p).draws = s.draws := by
  simp only [State.endRead]
  split <;> simp

@[simp] theorem State.grantRead_tb (s : State) (a b : Bool) : (s.grantRead a b).tb = s.tb := by
  simp only [State.grantRead]
  (repeat' split) <;> simp

@[simp] theorem State.grantRead_trig (s : State) (a b : Bool) : (s.grantRead a b).trig = s.trig := by
  simp only [State.grantRead]
  (repeat' split) <;> simp

@[simp] theorem State.grantRead_thermal (s : State) (a b : Bool) : (s.grantRead a b).thermal = s.thermal := by
  simp only [State.grantRead]
  (repeat' split) <;> simp

@[simp] theorem State.grantRead_energy (s : State) (a b : Bool) : (s.grantRead a b).energy = s.energy := by
  simp only [State.grantRead]
  (repeat' split) <;> simp

@[simp] theorem State.grantRead_settings (s : State) (a b : Bool) : (s.grantRead a b).settings = s.settings := by
  simp only [State.grantRead]
  (repeat' split) <;> simp

@[simp] theorem State.grantRead_pins (s : State) (a b : Bool) : (s.grantRead a b).pins = s.pins := by
  simp only [State.grantRead]
  (repeat' split) <;> simp

@[simp] theorem State.grantRead_pending (s : State) (a b : Bool) : (s.grantRead a b).pending = s.pending := by
  simp only [State.grantRead]
  (repeat' split) <;> simp

@[simp] theorem State.grantRead_front (s : State) (a b : Bool) : (s.grantRead a b).front = s.front := by
  simp only [State.grantRead]
  (repeat' split) <;> simp

@[simp] theorem State.grantRead_alerts (s : State) (a b : Bool) : (s.grantRead a b).alerts = s.alerts := by
  simp only [State.grantRead]
  (repeat' split) <;> simp

@[simp] theorem State.grantRead_cat (s : State) (a b : Bool) : (s.grantRead a b).cat = s.cat := by
  simp only [State.grantRead]
  (repeat' split) <;> simp

@[simp] theorem State.grantRead_restartsDue (s : State) (a b : Bool) : (s.grantRead a b).restartsDue = s.restartsDue := by
  simp only [State.grantRead]
  (repeat' split) <;> simp

@[simp] theorem State.grantRead_draws (s : State) (a b : Bool) : (s.grantRead a b).draws = s.draws := by
  simp only [State.grantRead]
  (repeat' split) <;> simp

@[simp] theorem State.abortJobs_tb (s : State) (l : List Nat) : (s.abortJobs l).tb = s.tb := by
  induction l generalizing s with
  | nil => rfl
  | cons _ _ ih =>
    simp only [State.abortJobs, ih]
    (repeat' split) <;> simp

@[simp] theorem State.abortJobs_trig (s : State) (l : List Nat) : (s.abortJobs l).trig = s.trig := by
  induction l generalizing s with
  | nil => rfl
  | cons _ _ ih =>
    simp only [State.abortJobs, ih]
    (repeat' split) <;> simp

@[simp] theorem State.abortJobs_thermal (s : State) (l : List Nat) : (s.abortJobs l).thermal = s.thermal := by
  induction l generalizing s with
  | nil => rfl
  | cons _ _ ih =>
    simp only [State.abortJobs, ih]
    (repeat' split) <;> simp

@[simp] theorem State.abortJobs_energy (s : State) (l : List Nat) : (s.abortJobs l).energy = s.energy := by
  induction l generalizing s with
  | nil => rfl
  | cons _ _ ih =>
    simp only [State.abortJobs, ih]
    (repeat' split) <;> simp

@[simp] theorem State.abortJobs_settings (s : State) (l : List Nat) : (s.abortJobs l).settings = s.settings := by
  induction l generalizing s with
  | nil => rfl
  | cons _ _ ih =>
    simp only [State.abortJobs, ih]
    (repeat' split) <;> simp

@[simp] theorem State.abortJobs_pins (s : State) (l : List Nat) : (s.abortJobs l).pins = s.pins := by
  induction l generalizing s with
  | nil => rfl
  | cons _ _ ih =>
    simp only [State.abortJobs, ih]
    (repeat' split) <;> simp

@[simp] theorem State.abortJobs_pending (s : State) (l : List Nat) : (s.abortJobs l).pending = s.pending := by
  induction l generalizing s with
  | nil => rfl
  | cons _ _ ih =>
    simp only [State.abortJobs, ih]
    (repeat' split) <;> simp

@[simp] theorem State.abortJobs_front (s : State) (l : List Nat) : (s.abortJobs l).front = s.front := by
  induction l generalizing s with
  | nil => rfl
  | cons _ _ ih =>
    simp only [State.abortJobs, ih]
    (repeat' split) <;> simp

@[simp] theorem State.abortJobs_restartsDue (s : State) (l : List Nat) : (s.abortJobs l).restartsDue = s.restartsDue := by
  induction l generalizing s with
  | nil => rfl
  | cons _ _ ih =>
    simp only [State.abortJobs, ih]
    (repeat' split) <;> simp

@[simp] theorem State.abortJobs_draws (s : State) (l : List Nat) : (s.abortJobs l).draws = s.draws := by
  induction l generalizing s with
  | nil => rfl
  | cons _ _ ih =>
    simp only [State.abortJobs, ih]
    (repeat' split) <;> simp

@[simp] theorem State.dropReads_tb (s : State) : (s.dropReads).tb = s.tb := by
  rfl

@[simp] theorem State.dropReads_trig (s : State) : (s.dropReads).trig = s.trig := by
  rfl

@[simp] theorem State.dropReads_thermal (s : State) : (s.dropReads).thermal = s.thermal := by
  rfl

@[simp] theorem State.dropReads_energy (s : State) : (s.dropReads).energy = s.energy := by
  rfl

@[simp] theorem State.dropReads_settings (s : State) : (s.dropReads).settings = s.settings := by
  rfl

@[simp] theorem State.dropReads_pins (s : State) : (s.dropReads).pins = s.pins := by
  rfl

@[simp] theorem State.dropReads_pending (s : State) : (s.dropReads).pending = s.pending := by
  rfl

@[simp] theorem State.dropReads_front (s : State) : (s.dropReads).front = s.front := by
  rfl

@[simp] theorem State.dropReads_restartsDue (s : State) : (s.dropReads).restartsDue = s.restartsDue := by
  rfl

@[simp] theorem State.dropReads_draws (s : State) : (s.dropReads).draws = s.draws := by
  rfl

@[simp] theorem State.stopBurst_tb (s : State) (k n : Nat) : (s.stopBurst k n).tb = s.tb := by
  simp only [State.stopBurst]
  (repeat' split) <;> simp

@[simp] theorem State.stopBurst_trig (s : State) (k n : Nat) : (s.stopBurst k n).trig = s.trig := by
  simp only [State.stopBurst]
  (repeat' split) <;> simp

@[simp] theorem State.stopBurst_thermal (s : State) (k n : Nat) : (s.stopBurst k n).thermal = s.thermal := by
  simp only [State.stopBurst]
  (repeat' split) <;> simp

@[simp] theorem State.stopBurst_energy (s : State) (k n : Nat) : (s.stopBurst k n).energy = s.energy := by
  simp only [State.stopBurst]
  (repeat' split) <;> simp

@[simp] theorem State.stopBurst_settings (s : State) (k n : Nat) : (s.stopBurst k n).settings = s.settings := by
  simp only [State.stopBurst]
  (repeat' split) <;> simp

@[simp] theorem State.stopBurst_pins (s : State) (k n : Nat) : (s.stopBurst k n).pins = s.pins := by
  simp only [State.stopBurst]
  (repeat' split) <;> simp

@[simp] theorem State.stopBurst_pending (s : State) (k n : Nat) : (s.stopBurst k n).pending = s.pending := by
  simp only [State.stopBurst]
  (repeat' split) <;> simp

@[simp] theorem State.stopBurst_front (s : State) (k n : Nat) : (s.stopBurst k n).front = s.front := by
  simp only [State.stopBurst]
  (repeat' split) <;> simp

@[simp] theorem State.stopBurst_alerts (s : State) (k n : Nat) : (s.stopBurst k n).alerts = s.alerts := by
  simp only [State.stopBurst]
  (repeat' split) <;> simp

@[simp] theorem State.stopBurst_restartsDue (s : State) (k n : Nat) : (s.stopBurst k n).restartsDue = s.restartsDue := by
  simp only [State.stopBurst]
  (repeat' split) <;> simp

@[simp] theorem State.stopBurst_draws (s : State) (k n : Nat) : (s.stopBurst k n).draws = s.draws := by
  simp only [State.stopBurst]
  (repeat' split) <;> simp

end Sys2Proof.Machine
end

