-- ==== Sys2Proof/Laws/FrameTrigger.lean ====
section
/-! SUPPORT. Which parts of the state the operations of the Trigger Unit leave as they are: one
lemma for each operation and each part of the state, so that no proof unfolds an operation to learn what it does not touch. -/

namespace Sys2Proof.Machine

set_option Elab.async false

open Sys2Proof

@[simp] theorem State.setStation_tb (s : State) (t : Station) : (s.setStation t).tb = s.tb := by
  rfl

@[simp] theorem State.setStation_thermal (s : State) (t : Station) : (s.setStation t).thermal = s.thermal := by
  rfl

@[simp] theorem State.setStation_energy (s : State) (t : Station) : (s.setStation t).energy = s.energy := by
  rfl

@[simp] theorem State.setStation_settings (s : State) (t : Station) : (s.setStation t).settings = s.settings := by
  rfl

@[simp] theorem State.setStation_pins (s : State) (t : Station) : (s.setStation t).pins = s.pins := by
  rfl

@[simp] theorem State.setStation_pending (s : State) (t : Station) : (s.setStation t).pending = s.pending := by
  rfl

@[simp] theorem State.setStation_front (s : State) (t : Station) : (s.setStation t).front = s.front := by
  rfl

@[simp] theorem State.setStation_store (s : State) (t : Station) : (s.setStation t).store = s.store := by
  rfl

@[simp] theorem State.setStation_alerts (s : State) (t : Station) : (s.setStation t).alerts = s.alerts := by
  rfl

@[simp] theorem State.setStation_cat (s : State) (t : Station) : (s.setStation t).cat = s.cat := by
  rfl

@[simp] theorem State.setStation_restartsDue (s : State) (t : Station) : (s.setStation t).restartsDue = s.restartsDue := by
  rfl

@[simp] theorem State.setStation_draws (s : State) (t : Station) : (s.setStation t).draws = s.draws := by
  rfl

@[simp] theorem State.beginPriming_tb (s : State) : (s.beginPriming).tb = s.tb := by
  rfl

@[simp] theorem State.beginPriming_thermal (s : State) : (s.beginPriming).thermal = s.thermal := by
  rfl

@[simp] theorem State.beginPriming_energy (s : State) : (s.beginPriming).energy = s.energy := by
  rfl

@[simp] theorem State.beginPriming_settings (s : State) : (s.beginPriming).settings = s.settings := by
  rfl

@[simp] theorem State.beginPriming_pins (s : State) : (s.beginPriming).pins = s.pins := by
  rfl

@[simp] theorem State.beginPriming_pending (s : State) : (s.beginPriming).pending = s.pending := by
  rfl

@[simp] theorem State.beginPriming_front (s : State) : (s.beginPriming).front = s.front := by
  rfl

@[simp] theorem State.beginPriming_store (s : State) : (s.beginPriming).store = s.store := by
  rfl

@[simp] theorem State.beginPriming_alerts (s : State) : (s.beginPriming).alerts = s.alerts := by
  rfl

@[simp] theorem State.beginPriming_cat (s : State) : (s.beginPriming).cat = s.cat := by
  rfl

@[simp] theorem State.beginPriming_restartsDue (s : State) : (s.beginPriming).restartsDue = s.restartsDue := by
  rfl

@[simp] theorem State.beginPriming_draws (s : State) : (s.beginPriming).draws = s.draws := by
  rfl

@[simp] theorem State.createEvent_tb (s : State) (c : EventCtx) : (s.createEvent c).1.tb = s.tb := by
  unfold State.createEvent
  split
  · next h => simp [State.addRecord_tb s _ _ _ h]
  · simp

@[simp] theorem State.createEvent_trig (s : State) (c : EventCtx) : (s.createEvent c).1.trig = s.trig := by
  unfold State.createEvent
  split
  · next h => simp [State.addRecord_trig s _ _ _ h]
  · simp

@[simp] theorem State.createEvent_thermal (s : State) (c : EventCtx) : (s.createEvent c).1.thermal = s.thermal := by
  unfold State.createEvent
  split
  · next h => simp [State.addRecord_thermal s _ _ _ h]
  · simp

@[simp] theorem State.createEvent_energy (s : State) (c : EventCtx) : (s.createEvent c).1.energy = s.energy := by
  unfold State.createEvent
  split
  · next h => simp [State.addRecord_energy s _ _ _ h]
  · simp

@[simp] theorem State.createEvent_settings (s : State) (c : EventCtx) : (s.createEvent c).1.settings = s.settings := by
  unfold State.createEvent
  split
  · next h => simp [State.addRecord_settings s _ _ _ h]
  · simp

@[simp] theorem State.createEvent_pins (s : State) (c : EventCtx) : (s.createEvent c).1.pins = s.pins := by
  unfold State.createEvent
  split
  · next h => simp [State.addRecord_pins s _ _ _ h]
  · simp

@[simp] theorem State.createEvent_pending (s : State) (c : EventCtx) : (s.createEvent c).1.pending = s.pending := by
  unfold State.createEvent
  split
  · next h => simp [State.addRecord_pending s _ _ _ h]
  · simp

@[simp] theorem State.createEvent_front (s : State) (c : EventCtx) : (s.createEvent c).1.front = s.front := by
  unfold State.createEvent
  split
  · next h => simp [State.addRecord_front s _ _ _ h]
  · simp

@[simp] theorem State.createEvent_store (s : State) (c : EventCtx) : (s.createEvent c).1.store = s.store := by
  unfold State.createEvent
  split
  · next h => simp [State.addRecord_store s _ _ _ h]
  · simp

@[simp] theorem State.createEvent_restartsDue (s : State) (c : EventCtx) : (s.createEvent c).1.restartsDue = s.restartsDue := by
  unfold State.createEvent
  split
  · next h => simp [State.addRecord_restartsDue s _ _ _ h]
  · simp

@[simp] theorem State.createEvent_draws (s : State) (c : EventCtx) : (s.createEvent c).1.draws = s.draws := by
  unfold State.createEvent
  split
  · next h => simp [State.addRecord_draws s _ _ _ h]
  · simp

@[simp] theorem State.runComponents_tb (s : State) (r : SetRec) : (s.runComponents r).1.tb = s.tb := by
  rfl

@[simp] theorem State.runComponents_thermal (s : State) (r : SetRec) : (s.runComponents r).1.thermal = s.thermal := by
  rfl

@[simp] theorem State.runComponents_energy (s : State) (r : SetRec) : (s.runComponents r).1.energy = s.energy := by
  rfl

@[simp] theorem State.runComponents_settings (s : State) (r : SetRec) : (s.runComponents r).1.settings = s.settings := by
  rfl

@[simp] theorem State.runComponents_pins (s : State) (r : SetRec) : (s.runComponents r).1.pins = s.pins := by
  rfl

@[simp] theorem State.runComponents_pending (s : State) (r : SetRec) : (s.runComponents r).1.pending = s.pending := by
  rfl

@[simp] theorem State.runComponents_front (s : State) (r : SetRec) : (s.runComponents r).1.front = s.front := by
  rfl

@[simp] theorem State.runComponents_store (s : State) (r : SetRec) : (s.runComponents r).1.store = s.store := by
  rfl

@[simp] theorem State.runComponents_alerts (s : State) (r : SetRec) : (s.runComponents r).1.alerts = s.alerts := by
  rfl

@[simp] theorem State.runComponents_cat (s : State) (r : SetRec) : (s.runComponents r).1.cat = s.cat := by
  rfl

@[simp] theorem State.runComponents_restartsDue (s : State) (r : SetRec) : (s.runComponents r).1.restartsDue = s.restartsDue := by
  rfl

@[simp] theorem State.runComponents_draws (s : State) (r : SetRec) : (s.runComponents r).1.draws = s.draws := by
  rfl

@[simp] theorem State.closeEvent_tb (s : State) (f i h : Bool) : (s.closeEvent f i h).tb = s.tb := by
  simp only [State.closeEvent]
  (repeat' split) <;> simp

@[simp] theorem State.closeEvent_thermal (s : State) (f i h : Bool) : (s.closeEvent f i h).thermal = s.thermal := by
  simp only [State.closeEvent]
  (repeat' split) <;> simp

@[simp] theorem State.closeEvent_energy (s : State) (f i h : Bool) : (s.closeEvent f i h).energy = s.energy := by
  simp only [State.closeEvent]
  (repeat' split) <;> simp

@[simp] theorem State.closeEvent_settings (s : State) (f i h : Bool) : (s.closeEvent f i h).settings = s.settings := by
  simp only [State.closeEvent]
  (repeat' split) <;> simp

@[simp] theorem State.closeEvent_pins (s : State) (f i h : Bool) : (s.closeEvent f i h).pins = s.pins := by
  simp only [State.closeEvent]
  (repeat' split) <;> simp

@[simp] theorem State.closeEvent_pending (s : State) (f i h : Bool) : (s.closeEvent f i h).pending = s.pending := by
  simp only [State.closeEvent]
  (repeat' split) <;> simp

@[simp] theorem State.closeEvent_front (s : State) (f i h : Bool) : (s.closeEvent f i h).front = s.front := by
  simp only [State.closeEvent]
  (repeat' split) <;> simp

@[simp] theorem State.closeEvent_restartsDue (s : State) (f i h : Bool) : (s.closeEvent f i h).restartsDue = s.restartsDue := by
  simp only [State.closeEvent]
  (repeat' split) <;> simp

@[simp] theorem State.closeEvent_draws (s : State) (f i h : Bool) : (s.closeEvent f i h).draws = s.draws := by
  simp only [State.closeEvent]
  (repeat' split) <;> simp

@[simp] theorem State.openEvent_tb (s : State) (r : SetRec) (f : Figures) : (s.openEvent r f).tb = s.tb := by
  simp only [State.openEvent]
  split <;> simp

@[simp] theorem State.openEvent_thermal (s : State) (r : SetRec) (f : Figures) : (s.openEvent r f).thermal = s.thermal := by
  simp only [State.openEvent]
  split <;> simp

@[simp] theorem State.openEvent_energy (s : State) (r : SetRec) (f : Figures) : (s.openEvent r f).energy = s.energy := by
  simp only [State.openEvent]
  split <;> simp

@[simp] theorem State.openEvent_settings (s : State) (r : SetRec) (f : Figures) : (s.openEvent r f).settings = s.settings := by
  simp only [State.openEvent]
  split <;> simp

@[simp] theorem State.openEvent_pins (s : State) (r : SetRec) (f : Figures) : (s.openEvent r f).pins = s.pins := by
  simp only [State.openEvent]
  split <;> simp

@[simp] theorem State.openEvent_pending (s : State) (r : SetRec) (f : Figures) : (s.openEvent r f).pending = s.pending := by
  simp only [State.openEvent]
  split <;> simp

@[simp] theorem State.openEvent_front (s : State) (r : SetRec) (f : Figures) : (s.openEvent r f).front = s.front := by
  simp only [State.openEvent]
  split <;> simp

@[simp] theorem State.openEvent_restartsDue (s : State) (r : SetRec) (f : Figures) : (s.openEvent r f).restartsDue = s.restartsDue := by
  simp only [State.openEvent]
  split <;> simp

@[simp] theorem State.openEvent_draws (s : State) (r : SetRec) (f : Figures) : (s.openEvent r f).draws = s.draws := by
  simp only [State.openEvent]
  split <;> simp

@[simp] theorem State.followEvent_tb (s : State) (r : SetRec) (b : Bool) (f : Figures) : (s.followEvent r b f).tb = s.tb := by
  simp only [State.followEvent]
  split <;> simp

@[simp] theorem State.followEvent_thermal (s : State) (r : SetRec) (b : Bool) (f : Figures) : (s.followEvent r b f).thermal = s.thermal := by
  simp only [State.followEvent]
  split <;> simp

@[simp] theorem State.followEvent_energy (s : State) (r : SetRec) (b : Bool) (f : Figures) : (s.followEvent r b f).energy = s.energy := by
  simp only [State.followEvent]
  split <;> simp

@[simp] theorem State.followEvent_settings (s : State) (r : SetRec) (b : Bool) (f : Figures) : (s.followEvent r b f).settings = s.settings := by
  simp only [State.followEvent]
  split <;> simp

@[simp] theorem State.followEvent_pins (s : State) (r : SetRec) (b : Bool) (f : Figures) : (s.followEvent r b f).pins = s.pins := by
  simp only [State.followEvent]
  split <;> simp

@[simp] theorem State.followEvent_pending (s : State) (r : SetRec) (b : Bool) (f : Figures) : (s.followEvent r b f).pending = s.pending := by
  simp only [State.followEvent]
  split <;> simp

@[simp] theorem State.followEvent_front (s : State) (r : SetRec) (b : Bool) (f : Figures) : (s.followEvent r b f).front = s.front := by
  simp only [State.followEvent]
  split <;> simp

@[simp] theorem State.followEvent_store (s : State) (r : SetRec) (b : Bool) (f : Figures) : (s.followEvent r b f).store = s.store := by
  simp only [State.followEvent]
  split <;> simp

@[simp] theorem State.followEvent_alerts (s : State) (r : SetRec) (b : Bool) (f : Figures) : (s.followEvent r b f).alerts = s.alerts := by
  simp only [State.followEvent]
  split <;> simp

@[simp] theorem State.followEvent_cat (s : State) (r : SetRec) (b : Bool) (f : Figures) : (s.followEvent r b f).cat = s.cat := by
  simp only [State.followEvent]
  split <;> simp

@[simp] theorem State.followEvent_restartsDue (s : State) (r : SetRec) (b : Bool) (f : Figures) : (s.followEvent r b f).restartsDue = s.restartsDue := by
  simp only [State.followEvent]
  split <;> simp

@[simp] theorem State.followEvent_draws (s : State) (r : SetRec) (b : Bool) (f : Figures) : (s.followEvent r b f).draws = s.draws := by
  simp only [State.followEvent]
  split <;> simp

@[simp] theorem State.endPostRoll_tb (s : State) : (s.endPostRoll).tb = s.tb := by
  simp [State.endPostRoll]

@[simp] theorem State.endPostRoll_thermal (s : State) : (s.endPostRoll).thermal = s.thermal := by
  simp [State.endPostRoll]

@[simp] theorem State.endPostRoll_energy (s : State) : (s.endPostRoll).energy = s.energy := by
  simp [State.endPostRoll]

@[simp] theorem State.endPostRoll_settings (s : State) : (s.endPostRoll).settings = s.settings := by
  simp [State.endPostRoll]

@[simp] theorem State.endPostRoll_pins (s : State) : (s.endPostRoll).pins = s.pins := by
  simp [State.endPostRoll]

@[simp] theorem State.endPostRoll_pending (s : State) : (s.endPostRoll).pending = s.pending := by
  simp [State.endPostRoll]

@[simp] theorem State.endPostRoll_front (s : State) : (s.endPostRoll).front = s.front := by
  simp [State.endPostRoll]

@[simp] theorem State.endPostRoll_restartsDue (s : State) : (s.endPostRoll).restartsDue = s.restartsDue := by
  simp [State.endPostRoll]

@[simp] theorem State.endPostRoll_draws (s : State) : (s.endPostRoll).draws = s.draws := by
  simp [State.endPostRoll]

@[simp] theorem State.evaluate_tb (s : State) (r : SetRec) (f : Figures) : (s.evaluate r f).tb = s.tb := by
  simp only [State.evaluate]
  (repeat' split) <;> simp

@[simp] theorem State.evaluate_thermal (s : State) (r : SetRec) (f : Figures) : (s.evaluate r f).thermal = s.thermal := by
  simp only [State.evaluate]
  (repeat' split) <;> simp

@[simp] theorem State.evaluate_energy (s : State) (r : SetRec) (f : Figures) : (s.evaluate r f).energy = s.energy := by
  simp only [State.evaluate]
  (repeat' split) <;> simp

@[simp] theorem State.evaluate_settings (s : State) (r : SetRec) (f : Figures) : (s.evaluate r f).settings = s.settings := by
  simp only [State.evaluate]
  (repeat' split) <;> simp

@[simp] theorem State.evaluate_pins (s : State) (r : SetRec) (f : Figures) : (s.evaluate r f).pins = s.pins := by
  simp only [State.evaluate]
  (repeat' split) <;> simp

@[simp] theorem State.evaluate_pending (s : State) (r : SetRec) (f : Figures) : (s.evaluate r f).pending = s.pending := by
  simp only [State.evaluate]
  (repeat' split) <;> simp

@[simp] theorem State.evaluate_front (s : State) (r : SetRec) (f : Figures) : (s.evaluate r f).front = s.front := by
  simp only [State.evaluate]
  (repeat' split) <;> simp

@[simp] theorem State.evaluate_restartsDue (s : State) (r : SetRec) (f : Figures) : (s.evaluate r f).restartsDue = s.restartsDue := by
  simp only [State.evaluate]
  (repeat' split) <;> simp

@[simp] theorem State.evaluate_draws (s : State) (r : SetRec) (f : Figures) : (s.evaluate r f).draws = s.draws := by
  simp only [State.evaluate]
  (repeat' split) <;> simp

@[simp] theorem State.reportEvent_tb (s : State) (b : Option EventCtx) : (s.reportEvent b).tb = s.tb := by
  simp only [State.reportEvent]
  (repeat' split) <;> simp

@[simp] theorem State.reportEvent_trig (s : State) (b : Option EventCtx) : (s.reportEvent b).trig = s.trig := by
  simp only [State.reportEvent]
  (repeat' split) <;> simp

@[simp] theorem State.reportEvent_thermal (s : State) (b : Option EventCtx) : (s.reportEvent b).thermal = s.thermal := by
  simp only [State.reportEvent]
  (repeat' split) <;> simp

@[simp] theorem State.reportEvent_energy (s : State) (b : Option EventCtx) : (s.reportEvent b).energy = s.energy := by
  simp only [State.reportEvent]
  (repeat' split) <;> simp

@[simp] theorem State.reportEvent_settings (s : State) (b : Option EventCtx) : (s.reportEvent b).settings = s.settings := by
  simp only [State.reportEvent]
  (repeat' split) <;> simp

@[simp] theorem State.reportEvent_pins (s : State) (b : Option EventCtx) : (s.reportEvent b).pins = s.pins := by
  simp only [State.reportEvent]
  (repeat' split) <;> simp

@[simp] theorem State.reportEvent_pending (s : State) (b : Option EventCtx) : (s.reportEvent b).pending = s.pending := by
  simp only [State.reportEvent]
  (repeat' split) <;> simp

@[simp] theorem State.reportEvent_front (s : State) (b : Option EventCtx) : (s.reportEvent b).front = s.front := by
  simp only [State.reportEvent]
  (repeat' split) <;> simp

@[simp] theorem State.reportEvent_store (s : State) (b : Option EventCtx) : (s.reportEvent b).store = s.store := by
  simp only [State.reportEvent]
  (repeat' split) <;> simp

@[simp] theorem State.reportEvent_alerts (s : State) (b : Option EventCtx) : (s.reportEvent b).alerts = s.alerts := by
  simp only [State.reportEvent]
  (repeat' split) <;> simp

@[simp] theorem State.reportEvent_restartsDue (s : State) (b : Option EventCtx) : (s.reportEvent b).restartsDue = s.restartsDue := by
  simp only [State.reportEvent]
  (repeat' split) <;> simp

@[simp] theorem State.reportEvent_draws (s : State) (b : Option EventCtx) : (s.reportEvent b).draws = s.draws := by
  simp only [State.reportEvent]
  (repeat' split) <;> simp

@[simp] theorem State.handOver_tb (s : State) (r : SetRec) : (s.handOver r).tb = s.tb := by
  simp only [State.handOver]
  (repeat' split) <;> simp

@[simp] theorem State.handOver_thermal (s : State) (r : SetRec) : (s.handOver r).thermal = s.thermal := by
  simp only [State.handOver]
  (repeat' split) <;> simp

@[simp] theorem State.handOver_energy (s : State) (r : SetRec) : (s.handOver r).energy = s.energy := by
  simp only [State.handOver]
  (repeat' split) <;> simp

@[simp] theorem State.handOver_settings (s : State) (r : SetRec) : (s.handOver r).settings = s.settings := by
  simp only [State.handOver]
  (repeat' split) <;> simp

@[simp] theorem State.handOver_pins (s : State) (r : SetRec) : (s.handOver r).pins = s.pins := by
  simp only [State.handOver]
  (repeat' split) <;> simp

@[simp] theorem State.handOver_pending (s : State) (r : SetRec) : (s.handOver r).pending = s.pending := by
  simp only [State.handOver]
  (repeat' split) <;> simp

@[simp] theorem State.handOver_front (s : State) (r : SetRec) : (s.handOver r).front = s.front := by
  simp only [State.handOver]
  (repeat' split) <;> simp

@[simp] theorem State.handOver_restartsDue (s : State) (r : SetRec) : (s.handOver r).restartsDue = s.restartsDue := by
  simp only [State.handOver]
  (repeat' split) <;> simp

@[simp] theorem State.handOver_draws (s : State) (r : SetRec) : (s.handOver r).draws = s.draws := by
  simp only [State.handOver]
  (repeat' split) <;> simp

@[simp] theorem State.heaterSwitched_tb (s : State) : (s.heaterSwitched).tb = s.tb := by
  simp only [State.heaterSwitched]
  (repeat' split) <;> simp

@[simp] theorem State.heaterSwitched_thermal (s : State) : (s.heaterSwitched).thermal = s.thermal := by
  simp only [State.heaterSwitched]
  (repeat' split) <;> simp

@[simp] theorem State.heaterSwitched_energy (s : State) : (s.heaterSwitched).energy = s.energy := by
  simp only [State.heaterSwitched]
  (repeat' split) <;> simp

@[simp] theorem State.heaterSwitched_settings (s : State) : (s.heaterSwitched).settings = s.settings := by
  simp only [State.heaterSwitched]
  (repeat' split) <;> simp

@[simp] theorem State.heaterSwitched_pins (s : State) : (s.heaterSwitched).pins = s.pins := by
  simp only [State.heaterSwitched]
  (repeat' split) <;> simp

@[simp] theorem State.heaterSwitched_pending (s : State) : (s.heaterSwitched).pending = s.pending := by
  simp only [State.heaterSwitched]
  (repeat' split) <;> simp

@[simp] theorem State.heaterSwitched_front (s : State) : (s.heaterSwitched).front = s.front := by
  simp only [State.heaterSwitched]
  (repeat' split) <;> simp

@[simp] theorem State.heaterSwitched_store (s : State) : (s.heaterSwitched).store = s.store := by
  simp only [State.heaterSwitched]
  (repeat' split) <;> simp

@[simp] theorem State.heaterSwitched_alerts (s : State) : (s.heaterSwitched).alerts = s.alerts := by
  simp only [State.heaterSwitched]
  (repeat' split) <;> simp

@[simp] theorem State.heaterSwitched_restartsDue (s : State) : (s.heaterSwitched).restartsDue = s.restartsDue := by
  simp only [State.heaterSwitched]
  (repeat' split) <;> simp

@[simp] theorem State.heaterSwitched_draws (s : State) : (s.heaterSwitched).draws = s.draws := by
  simp only [State.heaterSwitched]
  (repeat' split) <;> simp

@[simp] theorem State.addCause_tb (s : State) (f : Causes → Causes) : (s.addCause f).tb = s.tb := by
  simp only [State.addCause]
  split <;> simp

@[simp] theorem State.addCause_thermal (s : State) (f : Causes → Causes) : (s.addCause f).thermal = s.thermal := by
  simp only [State.addCause]
  split <;> simp

@[simp] theorem State.addCause_energy (s : State) (f : Causes → Causes) : (s.addCause f).energy = s.energy := by
  simp only [State.addCause]
  split <;> simp

@[simp] theorem State.addCause_settings (s : State) (f : Causes → Causes) : (s.addCause f).settings = s.settings := by
  simp only [State.addCause]
  split <;> simp

@[simp] theorem State.addCause_pins (s : State) (f : Causes → Causes) : (s.addCause f).pins = s.pins := by
  simp only [State.addCause]
  split <;> simp

@[simp] theorem State.addCause_pending (s : State) (f : Causes → Causes) : (s.addCause f).pending = s.pending := by
  simp only [State.addCause]
  split <;> simp

@[simp] theorem State.addCause_front (s : State) (f : Causes → Causes) : (s.addCause f).front = s.front := by
  simp only [State.addCause]
  split <;> simp

@[simp] theorem State.addCause_restartsDue (s : State) (f : Causes → Causes) : (s.addCause f).restartsDue = s.restartsDue := by
  simp only [State.addCause]
  split <;> simp

@[simp] theorem State.addCause_draws (s : State) (f : Causes → Causes) : (s.addCause f).draws = s.draws := by
  simp only [State.addCause]
  split <;> simp

@[simp] theorem State.removeCause_tb (s : State) (f : Causes → Causes) : (s.removeCause f).tb = s.tb := by
  simp only [State.removeCause]
  split <;> simp

@[simp] theorem State.removeCause_thermal (s : State) (f : Causes → Causes) : (s.removeCause f).thermal = s.thermal := by
  simp only [State.removeCause]
  split <;> simp

@[simp] theorem State.removeCause_energy (s : State) (f : Causes → Causes) : (s.removeCause f).energy = s.energy := by
  simp only [State.removeCause]
  split <;> simp

@[simp] theorem State.removeCause_settings (s : State) (f : Causes → Causes) : (s.removeCause f).settings = s.settings := by
  simp only [State.removeCause]
  split <;> simp

@[simp] theorem State.removeCause_pins (s : State) (f : Causes → Causes) : (s.removeCause f).pins = s.pins := by
  simp only [State.removeCause]
  split <;> simp

@[simp] theorem State.removeCause_pending (s : State) (f : Causes → Causes) : (s.removeCause f).pending = s.pending := by
  simp only [State.removeCause]
  split <;> simp

@[simp] theorem State.removeCause_front (s : State) (f : Causes → Causes) : (s.removeCause f).front = s.front := by
  simp only [State.removeCause]
  split <;> simp

@[simp] theorem State.removeCause_store (s : State) (f : Causes → Causes) : (s.removeCause f).store = s.store := by
  simp only [State.removeCause]
  split <;> simp

@[simp] theorem State.removeCause_alerts (s : State) (f : Causes → Causes) : (s.removeCause f).alerts = s.alerts := by
  simp only [State.removeCause]
  split <;> simp

@[simp] theorem State.removeCause_cat (s : State) (f : Causes → Causes) : (s.removeCause f).cat = s.cat := by
  simp only [State.removeCause]
  split <;> simp

@[simp] theorem State.removeCause_restartsDue (s : State) (f : Causes → Causes) : (s.removeCause f).restartsDue = s.restartsDue := by
  simp only [State.removeCause]
  split <;> simp

@[simp] theorem State.removeCause_draws (s : State) (f : Causes → Causes) : (s.removeCause f).draws = s.draws := by
  simp only [State.removeCause]
  split <;> simp

@[simp] theorem State.frontReport_tb (s : State) (f : FrontState) : (s.frontReport f).tb = s.tb := by
  simp only [State.frontReport]
  split <;> simp

@[simp] theorem State.frontReport_thermal (s : State) (f : FrontState) : (s.frontReport f).thermal = s.thermal := by
  simp only [State.frontReport]
  split <;> simp

@[simp] theorem State.frontReport_energy (s : State) (f : FrontState) : (s.frontReport f).energy = s.energy := by
  simp only [State.frontReport]
  split <;> simp

@[simp] theorem State.frontReport_settings (s : State) (f : FrontState) : (s.frontReport f).settings = s.settings := by
  simp only [State.frontReport]
  split <;> simp

@[simp] theorem State.frontReport_pins (s : State) (f : FrontState) : (s.frontReport f).pins = s.pins := by
  simp only [State.frontReport]
  split <;> simp

@[simp] theorem State.frontReport_pending (s : State) (f : FrontState) : (s.frontReport f).pending = s.pending := by
  simp only [State.frontReport]
  split <;> simp

@[simp] theorem State.frontReport_front (s : State) (f : FrontState) : (s.frontReport f).front = s.front := by
  simp only [State.frontReport]
  split <;> simp

@[simp] theorem State.frontReport_restartsDue (s : State) (f : FrontState) : (s.frontReport f).restartsDue = s.restartsDue := by
  simp only [State.frontReport]
  split <;> simp

@[simp] theorem State.frontReport_draws (s : State) (f : FrontState) : (s.frontReport f).draws = s.draws := by
  simp only [State.frontReport]
  split <;> simp

@[simp] theorem State.levelToTrigger_tb (s : State) (l : Level) : (s.levelToTrigger l).tb = s.tb := by
  simp only [State.levelToTrigger]
  split <;> simp

@[simp] theorem State.levelToTrigger_thermal (s : State) (l : Level) : (s.levelToTrigger l).thermal = s.thermal := by
  simp only [State.levelToTrigger]
  split <;> simp

@[simp] theorem State.levelToTrigger_energy (s : State) (l : Level) : (s.levelToTrigger l).energy = s.energy := by
  simp only [State.levelToTrigger]
  split <;> simp

@[simp] theorem State.levelToTrigger_settings (s : State) (l : Level) : (s.levelToTrigger l).settings = s.settings := by
  simp only [State.levelToTrigger]
  split <;> simp

@[simp] theorem State.levelToTrigger_pins (s : State) (l : Level) : (s.levelToTrigger l).pins = s.pins := by
  simp only [State.levelToTrigger]
  split <;> simp

@[simp] theorem State.levelToTrigger_pending (s : State) (l : Level) : (s.levelToTrigger l).pending = s.pending := by
  simp only [State.levelToTrigger]
  split <;> simp

@[simp] theorem State.levelToTrigger_front (s : State) (l : Level) : (s.levelToTrigger l).front = s.front := by
  simp only [State.levelToTrigger]
  split <;> simp

@[simp] theorem State.levelToTrigger_restartsDue (s : State) (l : Level) : (s.levelToTrigger l).restartsDue = s.restartsDue := by
  simp only [State.levelToTrigger]
  split <;> simp

@[simp] theorem State.levelToTrigger_draws (s : State) (l : Level) : (s.levelToTrigger l).draws = s.draws := by
  simp only [State.levelToTrigger]
  split <;> simp

@[simp] theorem State.enableWritten_tb (s : State) : (s.enableWritten).tb = s.tb := by
  simp only [State.enableWritten]
  split <;> simp

@[simp] theorem State.enableWritten_thermal (s : State) : (s.enableWritten).thermal = s.thermal := by
  simp only [State.enableWritten]
  split <;> simp

@[simp] theorem State.enableWritten_energy (s : State) : (s.enableWritten).energy = s.energy := by
  simp only [State.enableWritten]
  split <;> simp

@[simp] theorem State.enableWritten_settings (s : State) : (s.enableWritten).settings = s.settings := by
  simp only [State.enableWritten]
  split <;> simp

@[simp] theorem State.enableWritten_pins (s : State) : (s.enableWritten).pins = s.pins := by
  simp only [State.enableWritten]
  split <;> simp

@[simp] theorem State.enableWritten_pending (s : State) : (s.enableWritten).pending = s.pending := by
  simp only [State.enableWritten]
  split <;> simp

@[simp] theorem State.enableWritten_front (s : State) : (s.enableWritten).front = s.front := by
  simp only [State.enableWritten]
  split <;> simp

@[simp] theorem State.enableWritten_restartsDue (s : State) : (s.enableWritten).restartsDue = s.restartsDue := by
  simp only [State.enableWritten]
  split <;> simp

@[simp] theorem State.enableWritten_draws (s : State) : (s.enableWritten).draws = s.draws := by
  simp only [State.enableWritten]
  split <;> simp

@[simp] theorem State.constantsChanged_tb (s : State) : (s.constantsChanged).tb = s.tb := by
  simp only [State.constantsChanged]
  split <;> simp

@[simp] theorem State.constantsChanged_thermal (s : State) : (s.constantsChanged).thermal = s.thermal := by
  simp only [State.constantsChanged]
  split <;> simp

@[simp] theorem State.constantsChanged_energy (s : State) : (s.constantsChanged).energy = s.energy := by
  simp only [State.constantsChanged]
  split <;> simp

@[simp] theorem State.constantsChanged_settings (s : State) : (s.constantsChanged).settings = s.settings := by
  simp only [State.constantsChanged]
  split <;> simp

@[simp] theorem State.constantsChanged_pins (s : State) : (s.constantsChanged).pins = s.pins := by
  simp only [State.constantsChanged]
  split <;> simp

@[simp] theorem State.constantsChanged_pending (s : State) : (s.constantsChanged).pending = s.pending := by
  simp only [State.constantsChanged]
  split <;> simp

@[simp] theorem State.constantsChanged_front (s : State) : (s.constantsChanged).front = s.front := by
  simp only [State.constantsChanged]
  split <;> simp

@[simp] theorem State.constantsChanged_restartsDue (s : State) : (s.constantsChanged).restartsDue = s.restartsDue := by
  simp only [State.constantsChanged]
  split <;> simp

@[simp] theorem State.constantsChanged_draws (s : State) : (s.constantsChanged).draws = s.draws := by
  simp only [State.constantsChanged]
  split <;> simp

@[simp] theorem State.forceClose_tb (s : State) : (s.forceClose).tb = s.tb := by
  simp only [State.forceClose]
  (repeat' split) <;> simp

@[simp] theorem State.forceClose_thermal (s : State) : (s.forceClose).thermal = s.thermal := by
  simp only [State.forceClose]
  (repeat' split) <;> simp

@[simp] theorem State.forceClose_energy (s : State) : (s.forceClose).energy = s.energy := by
  simp only [State.forceClose]
  (repeat' split) <;> simp

@[simp] theorem State.forceClose_settings (s : State) : (s.forceClose).settings = s.settings := by
  simp only [State.forceClose]
  (repeat' split) <;> simp

@[simp] theorem State.forceClose_pins (s : State) : (s.forceClose).pins = s.pins := by
  simp only [State.forceClose]
  (repeat' split) <;> simp

@[simp] theorem State.forceClose_pending (s : State) : (s.forceClose).pending = s.pending := by
  simp only [State.forceClose]
  (repeat' split) <;> simp

@[simp] theorem State.forceClose_front (s : State) : (s.forceClose).front = s.front := by
  simp only [State.forceClose]
  (repeat' split) <;> simp

@[simp] theorem State.forceClose_restartsDue (s : State) : (s.forceClose).restartsDue = s.restartsDue := by
  simp only [State.forceClose]
  (repeat' split) <;> simp

@[simp] theorem State.forceClose_draws (s : State) : (s.forceClose).draws = s.draws := by
  simp only [State.forceClose]
  (repeat' split) <;> simp

@[simp] theorem State.restartTrigger_tb (s : State) : (s.restartTrigger).tb = s.tb := by
  simp [State.restartTrigger]

@[simp] theorem State.restartTrigger_thermal (s : State) : (s.restartTrigger).thermal = s.thermal := by
  simp [State.restartTrigger]

@[simp] theorem State.restartTrigger_energy (s : State) : (s.restartTrigger).energy = s.energy := by
  simp [State.restartTrigger]

@[simp] theorem State.restartTrigger_settings (s : State) : (s.restartTrigger).settings = s.settings := by
  simp [State.restartTrigger]

@[simp] theorem State.restartTrigger_pins (s : State) : (s.restartTrigger).pins = s.pins := by
  simp [State.restartTrigger]

@[simp] theorem State.restartTrigger_pending (s : State) : (s.restartTrigger).pending = s.pending := by
  simp [State.restartTrigger]

@[simp] theorem State.restartTrigger_front (s : State) : (s.restartTrigger).front = s.front := by
  simp [State.restartTrigger]

@[simp] theorem State.restartTrigger_restartsDue (s : State) : (s.restartTrigger).restartsDue = s.restartsDue := by
  simp [State.restartTrigger]

@[simp] theorem State.restartTrigger_draws (s : State) : (s.restartTrigger).draws = s.draws := by
  simp [State.restartTrigger]

end Sys2Proof.Machine
end

