-- ==== Sys2Proof/Laws/FrameFront.lean ====
section
/-! SUPPORT. Which parts of the state the operations of the Sample Front leave as they are: one
lemma for each operation and each part of the state, so that no proof unfolds an operation to learn what it does not touch. -/

namespace Sys2Proof.Machine

set_option Elab.async false

open Sys2Proof

@[simp] theorem State.restartGrid_tb (s : State) : (s.restartGrid).tb = s.tb := by
  rfl

@[simp] theorem State.restartGrid_trig (s : State) : (s.restartGrid).trig = s.trig := by
  rfl

@[simp] theorem State.restartGrid_thermal (s : State) : (s.restartGrid).thermal = s.thermal := by
  rfl

@[simp] theorem State.restartGrid_energy (s : State) : (s.restartGrid).energy = s.energy := by
  rfl

@[simp] theorem State.restartGrid_settings (s : State) : (s.restartGrid).settings = s.settings := by
  rfl

@[simp] theorem State.restartGrid_pins (s : State) : (s.restartGrid).pins = s.pins := by
  rfl

@[simp] theorem State.restartGrid_pending (s : State) : (s.restartGrid).pending = s.pending := by
  rfl

@[simp] theorem State.restartGrid_store (s : State) : (s.restartGrid).store = s.store := by
  rfl

@[simp] theorem State.restartGrid_alerts (s : State) : (s.restartGrid).alerts = s.alerts := by
  rfl

@[simp] theorem State.restartGrid_cat (s : State) : (s.restartGrid).cat = s.cat := by
  rfl

@[simp] theorem State.restartGrid_restartsDue (s : State) : (s.restartGrid).restartsDue = s.restartsDue := by
  rfl

@[simp] theorem State.restartGrid_draws (s : State) : (s.restartGrid).draws = s.draws := by
  rfl

@[simp] theorem State.takeRate_tb (s : State) : (s.takeRate).tb = s.tb := by
  rfl

@[simp] theorem State.takeRate_trig (s : State) : (s.takeRate).trig = s.trig := by
  rfl

@[simp] theorem State.takeRate_thermal (s : State) : (s.takeRate).thermal = s.thermal := by
  rfl

@[simp] theorem State.takeRate_energy (s : State) : (s.takeRate).energy = s.energy := by
  rfl

@[simp] theorem State.takeRate_settings (s : State) : (s.takeRate).settings = s.settings := by
  rfl

@[simp] theorem State.takeRate_pins (s : State) : (s.takeRate).pins = s.pins := by
  rfl

@[simp] theorem State.takeRate_pending (s : State) : (s.takeRate).pending = s.pending := by
  rfl

@[simp] theorem State.takeRate_store (s : State) : (s.takeRate).store = s.store := by
  rfl

@[simp] theorem State.takeRate_alerts (s : State) : (s.takeRate).alerts = s.alerts := by
  rfl

@[simp] theorem State.takeRate_cat (s : State) : (s.takeRate).cat = s.cat := by
  rfl

@[simp] theorem State.takeRate_restartsDue (s : State) : (s.takeRate).restartsDue = s.restartsDue := by
  rfl

@[simp] theorem State.takeRate_draws (s : State) : (s.takeRate).draws = s.draws := by
  rfl

@[simp] theorem State.askBlanking_tb (s : State) : (s.askBlanking).1.tb = s.tb := by
  unfold State.askBlanking
  split <;> rfl

@[simp] theorem State.askBlanking_thermal (s : State) : (s.askBlanking).1.thermal = s.thermal := by
  unfold State.askBlanking
  split <;> rfl

@[simp] theorem State.askBlanking_energy (s : State) : (s.askBlanking).1.energy = s.energy := by
  unfold State.askBlanking
  split <;> rfl

@[simp] theorem State.askBlanking_settings (s : State) : (s.askBlanking).1.settings = s.settings := by
  unfold State.askBlanking
  split <;> rfl

@[simp] theorem State.askBlanking_pins (s : State) : (s.askBlanking).1.pins = s.pins := by
  unfold State.askBlanking
  split <;> rfl

@[simp] theorem State.askBlanking_pending (s : State) : (s.askBlanking).1.pending = s.pending := by
  unfold State.askBlanking
  split <;> rfl

@[simp] theorem State.askBlanking_front (s : State) : (s.askBlanking).1.front = s.front := by
  unfold State.askBlanking
  split <;> rfl

@[simp] theorem State.askBlanking_store (s : State) : (s.askBlanking).1.store = s.store := by
  unfold State.askBlanking
  split <;> rfl

@[simp] theorem State.askBlanking_alerts (s : State) : (s.askBlanking).1.alerts = s.alerts := by
  unfold State.askBlanking
  split <;> rfl

@[simp] theorem State.askBlanking_cat (s : State) : (s.askBlanking).1.cat = s.cat := by
  unfold State.askBlanking
  split <;> rfl

@[simp] theorem State.askBlanking_restartsDue (s : State) : (s.askBlanking).1.restartsDue = s.restartsDue := by
  unfold State.askBlanking
  split <;> rfl

@[simp] theorem State.askBlanking_draws (s : State) : (s.askBlanking).1.draws = s.draws := by
  unfold State.askBlanking
  split <;> rfl

@[simp] theorem State.linkUpdate_tb (s : State) (b : Bool) : (s.linkUpdate b).tb = s.tb := by
  simp only [State.linkUpdate]
  (repeat' split) <;> simp

@[simp] theorem State.linkUpdate_thermal (s : State) (b : Bool) : (s.linkUpdate b).thermal = s.thermal := by
  simp only [State.linkUpdate]
  (repeat' split) <;> simp

@[simp] theorem State.linkUpdate_energy (s : State) (b : Bool) : (s.linkUpdate b).energy = s.energy := by
  simp only [State.linkUpdate]
  (repeat' split) <;> simp

@[simp] theorem State.linkUpdate_settings (s : State) (b : Bool) : (s.linkUpdate b).settings = s.settings := by
  simp only [State.linkUpdate]
  (repeat' split) <;> simp

@[simp] theorem State.linkUpdate_pins (s : State) (b : Bool) : (s.linkUpdate b).pins = s.pins := by
  simp only [State.linkUpdate]
  (repeat' split) <;> simp

@[simp] theorem State.linkUpdate_pending (s : State) (b : Bool) : (s.linkUpdate b).pending = s.pending := by
  simp only [State.linkUpdate]
  (repeat' split) <;> simp

@[simp] theorem State.linkUpdate_restartsDue (s : State) (b : Bool) : (s.linkUpdate b).restartsDue = s.restartsDue := by
  simp only [State.linkUpdate]
  (repeat' split) <;> simp

@[simp] theorem State.linkUpdate_draws (s : State) (b : Bool) : (s.linkUpdate b).draws = s.draws := by
  simp only [State.linkUpdate]
  (repeat' split) <;> simp

@[simp] theorem State.finishSet_tb (s : State) (r : SetRec) : (s.finishSet r).tb = s.tb := by
  simp [State.finishSet]

@[simp] theorem State.finishSet_thermal (s : State) (r : SetRec) : (s.finishSet r).thermal = s.thermal := by
  simp [State.finishSet]

@[simp] theorem State.finishSet_energy (s : State) (r : SetRec) : (s.finishSet r).energy = s.energy := by
  simp [State.finishSet]

@[simp] theorem State.finishSet_settings (s : State) (r : SetRec) : (s.finishSet r).settings = s.settings := by
  simp [State.finishSet]

@[simp] theorem State.finishSet_pins (s : State) (r : SetRec) : (s.finishSet r).pins = s.pins := by
  simp [State.finishSet]

@[simp] theorem State.finishSet_pending (s : State) (r : SetRec) : (s.finishSet r).pending = s.pending := by
  simp [State.finishSet]

@[simp] theorem State.finishSet_restartsDue (s : State) (r : SetRec) : (s.finishSet r).restartsDue = s.restartsDue := by
  simp [State.finishSet]

@[simp] theorem State.finishSet_draws (s : State) (r : SetRec) : (s.finishSet r).draws = s.draws := by
  simp [State.finishSet]

@[simp] theorem State.flushRing_tb (s : State) : (s.flushRing).tb = s.tb := by
  simp only [State.flushRing]
  split <;> simp

@[simp] theorem State.flushRing_thermal (s : State) : (s.flushRing).thermal = s.thermal := by
  simp only [State.flushRing]
  split <;> simp

@[simp] theorem State.flushRing_energy (s : State) : (s.flushRing).energy = s.energy := by
  simp only [State.flushRing]
  split <;> simp

@[simp] theorem State.flushRing_settings (s : State) : (s.flushRing).settings = s.settings := by
  simp only [State.flushRing]
  split <;> simp

@[simp] theorem State.flushRing_pins (s : State) : (s.flushRing).pins = s.pins := by
  simp only [State.flushRing]
  split <;> simp

@[simp] theorem State.flushRing_pending (s : State) : (s.flushRing).pending = s.pending := by
  simp only [State.flushRing]
  split <;> simp

@[simp] theorem State.flushRing_restartsDue (s : State) : (s.flushRing).restartsDue = s.restartsDue := by
  simp only [State.flushRing]
  split <;> simp

@[simp] theorem State.flushRing_draws (s : State) : (s.flushRing).draws = s.draws := by
  simp only [State.flushRing]
  split <;> simp

@[simp] theorem State.completeSet_tb (s : State) (o : Strobe) (f : Option Frame) (b : Bool) : (s.completeSet o f b).tb = s.tb := by
  simp only [State.completeSet]
  split <;> simp

@[simp] theorem State.completeSet_thermal (s : State) (o : Strobe) (f : Option Frame) (b : Bool) : (s.completeSet o f b).thermal = s.thermal := by
  simp only [State.completeSet]
  split <;> simp

@[simp] theorem State.completeSet_energy (s : State) (o : Strobe) (f : Option Frame) (b : Bool) : (s.completeSet o f b).energy = s.energy := by
  simp only [State.completeSet]
  split <;> simp

@[simp] theorem State.completeSet_settings (s : State) (o : Strobe) (f : Option Frame) (b : Bool) : (s.completeSet o f b).settings = s.settings := by
  simp only [State.completeSet]
  split <;> simp

@[simp] theorem State.completeSet_pins (s : State) (o : Strobe) (f : Option Frame) (b : Bool) : (s.completeSet o f b).pins = s.pins := by
  simp only [State.completeSet]
  split <;> simp

@[simp] theorem State.completeSet_pending (s : State) (o : Strobe) (f : Option Frame) (b : Bool) : (s.completeSet o f b).pending = s.pending := by
  simp only [State.completeSet]
  split <;> simp

@[simp] theorem State.completeSet_restartsDue (s : State) (o : Strobe) (f : Option Frame) (b : Bool) : (s.completeSet o f b).restartsDue = s.restartsDue := by
  simp only [State.completeSet]
  split <;> simp

@[simp] theorem State.completeSet_draws (s : State) (o : Strobe) (f : Option Frame) (b : Bool) : (s.completeSet o f b).draws = s.draws := by
  simp only [State.completeSet]
  split <;> simp

@[simp] theorem State.abandonStrobe_tb (s : State) (b : Bool) : (s.abandonStrobe b).tb = s.tb := by
  simp only [State.abandonStrobe]
  split <;> simp

@[simp] theorem State.abandonStrobe_thermal (s : State) (b : Bool) : (s.abandonStrobe b).thermal = s.thermal := by
  simp only [State.abandonStrobe]
  split <;> simp

@[simp] theorem State.abandonStrobe_energy (s : State) (b : Bool) : (s.abandonStrobe b).energy = s.energy := by
  simp only [State.abandonStrobe]
  split <;> simp

@[simp] theorem State.abandonStrobe_settings (s : State) (b : Bool) : (s.abandonStrobe b).settings = s.settings := by
  simp only [State.abandonStrobe]
  split <;> simp

@[simp] theorem State.abandonStrobe_pins (s : State) (b : Bool) : (s.abandonStrobe b).pins = s.pins := by
  simp only [State.abandonStrobe]
  split <;> simp

@[simp] theorem State.abandonStrobe_pending (s : State) (b : Bool) : (s.abandonStrobe b).pending = s.pending := by
  simp only [State.abandonStrobe]
  split <;> simp

@[simp] theorem State.abandonStrobe_restartsDue (s : State) (b : Bool) : (s.abandonStrobe b).restartsDue = s.restartsDue := by
  simp only [State.abandonStrobe]
  split <;> simp

@[simp] theorem State.abandonStrobe_draws (s : State) (b : Bool) : (s.abandonStrobe b).draws = s.draws := by
  simp only [State.abandonStrobe]
  split <;> simp

@[simp] theorem State.enterSettling_tb (s : State) : (s.enterSettling).tb = s.tb := by
  simp only [State.enterSettling]
  split <;> simp

@[simp] theorem State.enterSettling_thermal (s : State) : (s.enterSettling).thermal = s.thermal := by
  simp only [State.enterSettling]
  split <;> simp

@[simp] theorem State.enterSettling_energy (s : State) : (s.enterSettling).energy = s.energy := by
  simp only [State.enterSettling]
  split <;> simp

@[simp] theorem State.enterSettling_settings (s : State) : (s.enterSettling).settings = s.settings := by
  simp only [State.enterSettling]
  split <;> simp

@[simp] theorem State.enterSettling_pins (s : State) : (s.enterSettling).pins = s.pins := by
  simp only [State.enterSettling]
  split <;> simp

@[simp] theorem State.enterSettling_pending (s : State) : (s.enterSettling).pending = s.pending := by
  simp only [State.enterSettling]
  split <;> simp

@[simp] theorem State.enterSettling_restartsDue (s : State) : (s.enterSettling).restartsDue = s.restartsDue := by
  simp only [State.enterSettling]
  split <;> simp

@[simp] theorem State.enterSettling_draws (s : State) : (s.enterSettling).draws = s.draws := by
  simp only [State.enterSettling]
  split <;> simp

@[simp] theorem State.sensorOn_tb (s : State) : (s.sensorOn).tb = s.tb := by
  simp only [State.sensorOn]
  split <;> simp

@[simp] theorem State.sensorOn_thermal (s : State) : (s.sensorOn).thermal = s.thermal := by
  simp only [State.sensorOn]
  split <;> simp

@[simp] theorem State.sensorOn_energy (s : State) : (s.sensorOn).energy = s.energy := by
  simp only [State.sensorOn]
  split <;> simp

@[simp] theorem State.sensorOn_settings (s : State) : (s.sensorOn).settings = s.settings := by
  simp only [State.sensorOn]
  split <;> simp

@[simp] theorem State.sensorOn_pins (s : State) : (s.sensorOn).pins = s.pins := by
  simp only [State.sensorOn]
  split <;> simp

@[simp] theorem State.sensorOn_pending (s : State) : (s.sensorOn).pending = s.pending := by
  simp only [State.sensorOn]
  split <;> simp

@[simp] theorem State.sensorOn_restartsDue (s : State) : (s.sensorOn).restartsDue = s.restartsDue := by
  simp only [State.sensorOn]
  split <;> simp

@[simp] theorem State.sensorOn_draws (s : State) : (s.sensorOn).draws = s.draws := by
  simp only [State.sensorOn]
  split <;> simp

@[simp] theorem State.sensorOff_tb (s : State) : (s.sensorOff).tb = s.tb := by
  simp only [State.sensorOff]
  split <;> simp

@[simp] theorem State.sensorOff_thermal (s : State) : (s.sensorOff).thermal = s.thermal := by
  simp only [State.sensorOff]
  split <;> simp

@[simp] theorem State.sensorOff_energy (s : State) : (s.sensorOff).energy = s.energy := by
  simp only [State.sensorOff]
  split <;> simp

@[simp] theorem State.sensorOff_settings (s : State) : (s.sensorOff).settings = s.settings := by
  simp only [State.sensorOff]
  split <;> simp

@[simp] theorem State.sensorOff_pins (s : State) : (s.sensorOff).pins = s.pins := by
  simp only [State.sensorOff]
  split <;> simp

@[simp] theorem State.sensorOff_pending (s : State) : (s.sensorOff).pending = s.pending := by
  simp only [State.sensorOff]
  split <;> simp

@[simp] theorem State.sensorOff_restartsDue (s : State) : (s.sensorOff).restartsDue = s.restartsDue := by
  simp only [State.sensorOff]
  split <;> simp

@[simp] theorem State.sensorOff_draws (s : State) : (s.sensorOff).draws = s.draws := by
  simp only [State.sensorOff]
  split <;> simp

@[simp] theorem State.settleTimer_tb (s : State) : (s.settleTimer).tb = s.tb := by
  simp only [State.settleTimer]
  split <;> simp

@[simp] theorem State.settleTimer_thermal (s : State) : (s.settleTimer).thermal = s.thermal := by
  simp only [State.settleTimer]
  split <;> simp

@[simp] theorem State.settleTimer_energy (s : State) : (s.settleTimer).energy = s.energy := by
  simp only [State.settleTimer]
  split <;> simp

@[simp] theorem State.settleTimer_settings (s : State) : (s.settleTimer).settings = s.settings := by
  simp only [State.settleTimer]
  split <;> simp

@[simp] theorem State.settleTimer_pins (s : State) : (s.settleTimer).pins = s.pins := by
  simp only [State.settleTimer]
  split <;> simp

@[simp] theorem State.settleTimer_pending (s : State) : (s.settleTimer).pending = s.pending := by
  simp only [State.settleTimer]
  split <;> simp

@[simp] theorem State.settleTimer_restartsDue (s : State) : (s.settleTimer).restartsDue = s.restartsDue := by
  simp only [State.settleTimer]
  split <;> simp

@[simp] theorem State.settleTimer_draws (s : State) : (s.settleTimer).draws = s.draws := by
  simp only [State.settleTimer]
  split <;> simp

@[simp] theorem State.takeFrame_tb (s : State) (l : List Byte) (f b : Bool) : (s.takeFrame l f b).tb = s.tb := by
  simp only [State.takeFrame]
  (repeat' split) <;> simp

@[simp] theorem State.takeFrame_thermal (s : State) (l : List Byte) (f b : Bool) : (s.takeFrame l f b).thermal = s.thermal := by
  simp only [State.takeFrame]
  (repeat' split) <;> simp

@[simp] theorem State.takeFrame_energy (s : State) (l : List Byte) (f b : Bool) : (s.takeFrame l f b).energy = s.energy := by
  simp only [State.takeFrame]
  (repeat' split) <;> simp

@[simp] theorem State.takeFrame_settings (s : State) (l : List Byte) (f b : Bool) : (s.takeFrame l f b).settings = s.settings := by
  simp only [State.takeFrame]
  (repeat' split) <;> simp

@[simp] theorem State.takeFrame_pins (s : State) (l : List Byte) (f b : Bool) : (s.takeFrame l f b).pins = s.pins := by
  simp only [State.takeFrame]
  (repeat' split) <;> simp

@[simp] theorem State.takeFrame_pending (s : State) (l : List Byte) (f b : Bool) : (s.takeFrame l f b).pending = s.pending := by
  simp only [State.takeFrame]
  (repeat' split) <;> simp

@[simp] theorem State.takeFrame_restartsDue (s : State) (l : List Byte) (f b : Bool) : (s.takeFrame l f b).restartsDue = s.restartsDue := by
  simp only [State.takeFrame]
  (repeat' split) <;> simp

@[simp] theorem State.takeFrame_draws (s : State) (l : List Byte) (f b : Bool) : (s.takeFrame l f b).draws = s.draws := by
  simp only [State.takeFrame]
  (repeat' split) <;> simp

@[simp] theorem State.timeSetReport_tb (s : State) (b : Bool) : (s.timeSetReport b).tb = s.tb := by
  rfl

@[simp] theorem State.timeSetReport_trig (s : State) (b : Bool) : (s.timeSetReport b).trig = s.trig := by
  rfl

@[simp] theorem State.timeSetReport_thermal (s : State) (b : Bool) : (s.timeSetReport b).thermal = s.thermal := by
  rfl

@[simp] theorem State.timeSetReport_energy (s : State) (b : Bool) : (s.timeSetReport b).energy = s.energy := by
  rfl

@[simp] theorem State.timeSetReport_settings (s : State) (b : Bool) : (s.timeSetReport b).settings = s.settings := by
  rfl

@[simp] theorem State.timeSetReport_pins (s : State) (b : Bool) : (s.timeSetReport b).pins = s.pins := by
  rfl

@[simp] theorem State.timeSetReport_pending (s : State) (b : Bool) : (s.timeSetReport b).pending = s.pending := by
  rfl

@[simp] theorem State.timeSetReport_store (s : State) (b : Bool) : (s.timeSetReport b).store = s.store := by
  rfl

@[simp] theorem State.timeSetReport_alerts (s : State) (b : Bool) : (s.timeSetReport b).alerts = s.alerts := by
  rfl

@[simp] theorem State.timeSetReport_cat (s : State) (b : Bool) : (s.timeSetReport b).cat = s.cat := by
  rfl

@[simp] theorem State.timeSetReport_restartsDue (s : State) (b : Bool) : (s.timeSetReport b).restartsDue = s.restartsDue := by
  rfl

@[simp] theorem State.timeSetReport_draws (s : State) (b : Bool) : (s.timeSetReport b).draws = s.draws := by
  rfl

@[simp] theorem State.restartStrobe_tb (s : State) : (s.restartStrobe).tb = s.tb := by
  simp [State.restartStrobe]

@[simp] theorem State.restartStrobe_thermal (s : State) : (s.restartStrobe).thermal = s.thermal := by
  simp [State.restartStrobe]

@[simp] theorem State.restartStrobe_energy (s : State) : (s.restartStrobe).energy = s.energy := by
  simp [State.restartStrobe]

@[simp] theorem State.restartStrobe_settings (s : State) : (s.restartStrobe).settings = s.settings := by
  simp [State.restartStrobe]

@[simp] theorem State.restartStrobe_pins (s : State) : (s.restartStrobe).pins = s.pins := by
  simp [State.restartStrobe]

@[simp] theorem State.restartStrobe_pending (s : State) : (s.restartStrobe).pending = s.pending := by
  simp [State.restartStrobe]

@[simp] theorem State.restartStrobe_restartsDue (s : State) : (s.restartStrobe).restartsDue = s.restartsDue := by
  simp [State.restartStrobe]

@[simp] theorem State.restartStrobe_draws (s : State) : (s.restartStrobe).draws = s.draws := by
  simp [State.restartStrobe]

@[simp] theorem State.restartFront_tb (s : State) : (s.restartFront).tb = s.tb := by
  simp only [State.restartFront]
  split <;> simp

@[simp] theorem State.restartFront_thermal (s : State) : (s.restartFront).thermal = s.thermal := by
  simp only [State.restartFront]
  split <;> simp

@[simp] theorem State.restartFront_energy (s : State) : (s.restartFront).energy = s.energy := by
  simp only [State.restartFront]
  split <;> simp

@[simp] theorem State.restartFront_settings (s : State) : (s.restartFront).settings = s.settings := by
  simp only [State.restartFront]
  split <;> simp

@[simp] theorem State.restartFront_pins (s : State) : (s.restartFront).pins = s.pins := by
  simp only [State.restartFront]
  split <;> simp

@[simp] theorem State.restartFront_pending (s : State) : (s.restartFront).pending = s.pending := by
  simp only [State.restartFront]
  split <;> simp

@[simp] theorem State.restartFront_restartsDue (s : State) : (s.restartFront).restartsDue = s.restartsDue := by
  simp only [State.restartFront]
  split <;> simp

@[simp] theorem State.restartFront_draws (s : State) : (s.restartFront).draws = s.draws := by
  simp only [State.restartFront]
  split <;> simp

end Sys2Proof.Machine
end

