-- ==== Sys2Proof/Laws/FramePower.lean ====
section
/-! SUPPORT. Which parts of the state the operations of domains, heaters, acquisitions, sessions, leases and the measurement leave as they are: one
lemma for each operation and each part of the state, so that no proof unfolds an operation to learn what it does not touch. -/

namespace Sys2Proof.Machine

set_option Elab.async false

open Sys2Proof

@[simp] theorem State.setDom_tb (s : State) (d : Domain) (r : DomRec) : (s.setDom d r).tb = s.tb := by
  rfl

@[simp] theorem State.setDom_trig (s : State) (d : Domain) (r : DomRec) : (s.setDom d r).trig = s.trig := by
  rfl

@[simp] theorem State.setDom_thermal (s : State) (d : Domain) (r : DomRec) : (s.setDom d r).thermal = s.thermal := by
  rfl

@[simp] theorem State.setDom_settings (s : State) (d : Domain) (r : DomRec) : (s.setDom d r).settings = s.settings := by
  rfl

@[simp] theorem State.setDom_pins (s : State) (d : Domain) (r : DomRec) : (s.setDom d r).pins = s.pins := by
  rfl

@[simp] theorem State.setDom_pending (s : State) (d : Domain) (r : DomRec) : (s.setDom d r).pending = s.pending := by
  rfl

@[simp] theorem State.setDom_front (s : State) (d : Domain) (r : DomRec) : (s.setDom d r).front = s.front := by
  rfl

@[simp] theorem State.setDom_store (s : State) (d : Domain) (r : DomRec) : (s.setDom d r).store = s.store := by
  rfl

@[simp] theorem State.setDom_alerts (s : State) (d : Domain) (r : DomRec) : (s.setDom d r).alerts = s.alerts := by
  rfl

@[simp] theorem State.setDom_cat (s : State) (d : Domain) (r : DomRec) : (s.setDom d r).cat = s.cat := by
  rfl

@[simp] theorem State.setDom_restartsDue (s : State) (d : Domain) (r : DomRec) : (s.setDom d r).restartsDue = s.restartsDue := by
  rfl

@[simp] theorem State.setDom_draws (s : State) (d : Domain) (r : DomRec) : (s.setDom d r).draws = s.draws := by
  rfl

@[simp] theorem State.leftOn_tb (s : State) (d : Domain) : (s.leftOn d).tb = s.tb := by
  simp only [State.leftOn]
  split <;> simp

@[simp] theorem State.leftOn_thermal (s : State) (d : Domain) : (s.leftOn d).thermal = s.thermal := by
  simp only [State.leftOn]
  split <;> simp

@[simp] theorem State.leftOn_energy (s : State) (d : Domain) : (s.leftOn d).energy = s.energy := by
  simp only [State.leftOn]
  split <;> simp

@[simp] theorem State.leftOn_settings (s : State) (d : Domain) : (s.leftOn d).settings = s.settings := by
  simp only [State.leftOn]
  split <;> simp

@[simp] theorem State.leftOn_pins (s : State) (d : Domain) : (s.leftOn d).pins = s.pins := by
  simp only [State.leftOn]
  split <;> simp

@[simp] theorem State.leftOn_pending (s : State) (d : Domain) : (s.leftOn d).pending = s.pending := by
  simp only [State.leftOn]
  split <;> simp

@[simp] theorem State.leftOn_restartsDue (s : State) (d : Domain) : (s.leftOn d).restartsDue = s.restartsDue := by
  simp only [State.leftOn]
  split <;> simp

@[simp] theorem State.leftOn_draws (s : State) (d : Domain) : (s.leftOn d).draws = s.draws := by
  simp only [State.leftOn]
  split <;> simp

@[simp] theorem State.turnOff_tb (s : State) (d : Domain) : (s.turnOff d).tb = s.tb := by
  simp only [State.turnOff]
  split <;> simp

@[simp] theorem State.turnOff_thermal (s : State) (d : Domain) : (s.turnOff d).thermal = s.thermal := by
  simp only [State.turnOff]
  split <;> simp

@[simp] theorem State.turnOff_settings (s : State) (d : Domain) : (s.turnOff d).settings = s.settings := by
  simp only [State.turnOff]
  split <;> simp

@[simp] theorem State.turnOff_pins (s : State) (d : Domain) : (s.turnOff d).pins = s.pins := by
  simp only [State.turnOff]
  split <;> simp

@[simp] theorem State.turnOff_pending (s : State) (d : Domain) : (s.turnOff d).pending = s.pending := by
  simp only [State.turnOff]
  split <;> simp

@[simp] theorem State.turnOff_restartsDue (s : State) (d : Domain) : (s.turnOff d).restartsDue = s.restartsDue := by
  simp only [State.turnOff]
  split <;> simp

@[simp] theorem State.turnOff_draws (s : State) (d : Domain) : (s.turnOff d).draws = s.draws := by
  simp only [State.turnOff]
  split <;> simp

@[simp] theorem State.wait_tb (s : State) (d : Domain) : (s.wait d).tb = s.tb := by
  simp only [State.wait]
  split <;> simp

@[simp] theorem State.wait_trig (s : State) (d : Domain) : (s.wait d).trig = s.trig := by
  simp only [State.wait]
  split <;> simp

@[simp] theorem State.wait_thermal (s : State) (d : Domain) : (s.wait d).thermal = s.thermal := by
  simp only [State.wait]
  split <;> simp

@[simp] theorem State.wait_settings (s : State) (d : Domain) : (s.wait d).settings = s.settings := by
  simp only [State.wait]
  split <;> simp

@[simp] theorem State.wait_pins (s : State) (d : Domain) : (s.wait d).pins = s.pins := by
  simp only [State.wait]
  split <;> simp

@[simp] theorem State.wait_pending (s : State) (d : Domain) : (s.wait d).pending = s.pending := by
  simp only [State.wait]
  split <;> simp

@[simp] theorem State.wait_front (s : State) (d : Domain) : (s.wait d).front = s.front := by
  simp only [State.wait]
  split <;> simp

@[simp] theorem State.wait_store (s : State) (d : Domain) : (s.wait d).store = s.store := by
  simp only [State.wait]
  split <;> simp

@[simp] theorem State.wait_alerts (s : State) (d : Domain) : (s.wait d).alerts = s.alerts := by
  simp only [State.wait]
  split <;> simp

@[simp] theorem State.wait_cat (s : State) (d : Domain) : (s.wait d).cat = s.cat := by
  simp only [State.wait]
  split <;> simp

@[simp] theorem State.wait_restartsDue (s : State) (d : Domain) : (s.wait d).restartsDue = s.restartsDue := by
  simp only [State.wait]
  split <;> simp

@[simp] theorem State.wait_draws (s : State) (d : Domain) : (s.wait d).draws = s.draws := by
  simp only [State.wait]
  split <;> simp

@[simp] theorem State.setRequest_tb (s : State) (d : Domain) (b : Bool) : (s.setRequest d b).tb = s.tb := by
  simp only [State.setRequest]
  (repeat' split) <;> simp

@[simp] theorem State.setRequest_thermal (s : State) (d : Domain) (b : Bool) : (s.setRequest d b).thermal = s.thermal := by
  simp only [State.setRequest]
  (repeat' split) <;> simp

@[simp] theorem State.setRequest_settings (s : State) (d : Domain) (b : Bool) : (s.setRequest d b).settings = s.settings := by
  simp only [State.setRequest]
  (repeat' split) <;> simp

@[simp] theorem State.setRequest_pins (s : State) (d : Domain) (b : Bool) : (s.setRequest d b).pins = s.pins := by
  simp only [State.setRequest]
  (repeat' split) <;> simp

@[simp] theorem State.setRequest_pending (s : State) (d : Domain) (b : Bool) : (s.setRequest d b).pending = s.pending := by
  simp only [State.setRequest]
  (repeat' split) <;> simp

@[simp] theorem State.setRequest_restartsDue (s : State) (d : Domain) (b : Bool) : (s.setRequest d b).restartsDue = s.restartsDue := by
  simp only [State.setRequest]
  (repeat' split) <;> simp

@[simp] theorem State.setRequest_draws (s : State) (d : Domain) (b : Bool) : (s.setRequest d b).draws = s.draws := by
  simp only [State.setRequest]
  (repeat' split) <;> simp

@[simp] theorem State.followAux_tb (s : State) : (s.followAux).tb = s.tb := by
  simp [State.followAux]

@[simp] theorem State.followAux_thermal (s : State) : (s.followAux).thermal = s.thermal := by
  simp [State.followAux]

@[simp] theorem State.followAux_settings (s : State) : (s.followAux).settings = s.settings := by
  simp [State.followAux]

@[simp] theorem State.followAux_pins (s : State) : (s.followAux).pins = s.pins := by
  simp [State.followAux]

@[simp] theorem State.followAux_pending (s : State) : (s.followAux).pending = s.pending := by
  simp [State.followAux]

@[simp] theorem State.followAux_restartsDue (s : State) : (s.followAux).restartsDue = s.restartsDue := by
  simp [State.followAux]

@[simp] theorem State.followAux_draws (s : State) : (s.followAux).draws = s.draws := by
  simp [State.followAux]

@[simp] theorem State.request_tb (s : State) (d : Domain) (b : Bool) : (s.request d b).tb = s.tb := by
  simp [State.request]

@[simp] theorem State.request_thermal (s : State) (d : Domain) (b : Bool) : (s.request d b).thermal = s.thermal := by
  simp [State.request]

@[simp] theorem State.request_settings (s : State) (d : Domain) (b : Bool) : (s.request d b).settings = s.settings := by
  simp [State.request]

@[simp] theorem State.request_pins (s : State) (d : Domain) (b : Bool) : (s.request d b).pins = s.pins := by
  simp [State.request]

@[simp] theorem State.request_pending (s : State) (d : Domain) (b : Bool) : (s.request d b).pending = s.pending := by
  simp [State.request]

@[simp] theorem State.request_restartsDue (s : State) (d : Domain) (b : Bool) : (s.request d b).restartsDue = s.restartsDue := by
  simp [State.request]

@[simp] theorem State.request_draws (s : State) (d : Domain) (b : Bool) : (s.request d b).draws = s.draws := by
  simp [State.request]

@[simp] theorem State.enterOn_thermal (s : State) (d : Domain) : (s.enterOn d).thermal = s.thermal := by
  simp only [State.enterOn]
  (repeat' split) <;> simp

@[simp] theorem State.enterOn_settings (s : State) (d : Domain) : (s.enterOn d).settings = s.settings := by
  simp only [State.enterOn]
  (repeat' split) <;> simp

@[simp] theorem State.enterOn_pins (s : State) (d : Domain) : (s.enterOn d).pins = s.pins := by
  simp only [State.enterOn]
  (repeat' split) <;> simp

@[simp] theorem State.enterOn_pending (s : State) (d : Domain) : (s.enterOn d).pending = s.pending := by
  simp only [State.enterOn]
  (repeat' split) <;> simp

@[simp] theorem State.enterOn_restartsDue (s : State) (d : Domain) : (s.enterOn d).restartsDue = s.restartsDue := by
  simp only [State.enterOn]
  (repeat' split) <;> simp

@[simp] theorem State.enterOn_draws (s : State) (d : Domain) : (s.enterOn d).draws = s.draws := by
  simp only [State.enterOn]
  (repeat' split) <;> simp

@[simp] theorem State.grantDomain_thermal (s : State) : (s.grantDomain).thermal = s.thermal := by
  simp only [State.grantDomain]
  (repeat' split) <;> simp

@[simp] theorem State.grantDomain_settings (s : State) : (s.grantDomain).settings = s.settings := by
  simp only [State.grantDomain]
  (repeat' split) <;> simp

@[simp] theorem State.grantDomain_pins (s : State) : (s.grantDomain).pins = s.pins := by
  simp only [State.grantDomain]
  (repeat' split) <;> simp

@[simp] theorem State.grantDomain_pending (s : State) : (s.grantDomain).pending = s.pending := by
  simp only [State.grantDomain]
  (repeat' split) <;> simp

@[simp] theorem State.grantDomain_restartsDue (s : State) : (s.grantDomain).restartsDue = s.restartsDue := by
  simp only [State.grantDomain]
  (repeat' split) <;> simp

@[simp] theorem State.grantDomain_draws (s : State) : (s.grantDomain).draws = s.draws := by
  simp only [State.grantDomain]
  (repeat' split) <;> simp

@[simp] theorem State.goodPresent_thermal (s : State) (d : Domain) : (s.goodPresent d).thermal = s.thermal := by
  simp only [State.goodPresent]
  split <;> simp

@[simp] theorem State.goodPresent_settings (s : State) (d : Domain) : (s.goodPresent d).settings = s.settings := by
  simp only [State.goodPresent]
  split <;> simp

@[simp] theorem State.goodPresent_pending (s : State) (d : Domain) : (s.goodPresent d).pending = s.pending := by
  simp only [State.goodPresent]
  split <;> simp

@[simp] theorem State.goodPresent_restartsDue (s : State) (d : Domain) : (s.goodPresent d).restartsDue = s.restartsDue := by
  simp only [State.goodPresent]
  split <;> simp

@[simp] theorem State.goodPresent_draws (s : State) (d : Domain) : (s.goodPresent d).draws = s.draws := by
  simp only [State.goodPresent]
  split <;> simp

@[simp] theorem State.recomputeTc_trig (s : State) : (s.recomputeTc).trig = s.trig := by
  rfl

@[simp] theorem State.recomputeTc_thermal (s : State) : (s.recomputeTc).thermal = s.thermal := by
  rfl

@[simp] theorem State.recomputeTc_energy (s : State) : (s.recomputeTc).energy = s.energy := by
  rfl

@[simp] theorem State.recomputeTc_settings (s : State) : (s.recomputeTc).settings = s.settings := by
  rfl

@[simp] theorem State.recomputeTc_pins (s : State) : (s.recomputeTc).pins = s.pins := by
  rfl

@[simp] theorem State.recomputeTc_pending (s : State) : (s.recomputeTc).pending = s.pending := by
  rfl

@[simp] theorem State.recomputeTc_front (s : State) : (s.recomputeTc).front = s.front := by
  rfl

@[simp] theorem State.recomputeTc_store (s : State) : (s.recomputeTc).store = s.store := by
  rfl

@[simp] theorem State.recomputeTc_alerts (s : State) : (s.recomputeTc).alerts = s.alerts := by
  rfl

@[simp] theorem State.recomputeTc_cat (s : State) : (s.recomputeTc).cat = s.cat := by
  rfl

@[simp] theorem State.recomputeTc_restartsDue (s : State) : (s.recomputeTc).restartsDue = s.restartsDue := by
  rfl

@[simp] theorem State.recomputeTc_draws (s : State) : (s.recomputeTc).draws = s.draws := by
  rfl

@[simp] theorem State.chargeEnable_tb (s : State) : (s.chargeEnable).tb = s.tb := by
  rfl

@[simp] theorem State.chargeEnable_trig (s : State) : (s.chargeEnable).trig = s.trig := by
  rfl

@[simp] theorem State.chargeEnable_thermal (s : State) : (s.chargeEnable).thermal = s.thermal := by
  rfl

@[simp] theorem State.chargeEnable_settings (s : State) : (s.chargeEnable).settings = s.settings := by
  rfl

@[simp] theorem State.chargeEnable_pins (s : State) : (s.chargeEnable).pins = s.pins := by
  rfl

@[simp] theorem State.chargeEnable_pending (s : State) : (s.chargeEnable).pending = s.pending := by
  rfl

@[simp] theorem State.chargeEnable_front (s : State) : (s.chargeEnable).front = s.front := by
  rfl

@[simp] theorem State.chargeEnable_store (s : State) : (s.chargeEnable).store = s.store := by
  rfl

@[simp] theorem State.chargeEnable_alerts (s : State) : (s.chargeEnable).alerts = s.alerts := by
  rfl

@[simp] theorem State.chargeEnable_cat (s : State) : (s.chargeEnable).cat = s.cat := by
  rfl

@[simp] theorem State.chargeEnable_restartsDue (s : State) : (s.chargeEnable).restartsDue = s.restartsDue := by
  rfl

@[simp] theorem State.chargeEnable_draws (s : State) : (s.chargeEnable).draws = s.draws := by
  rfl

@[simp] theorem State.setHeater_tb (s : State) (h : Heater) (r : HeaterRec) : (s.setHeater h r).tb = s.tb := by
  rfl

@[simp] theorem State.setHeater_trig (s : State) (h : Heater) (r : HeaterRec) : (s.setHeater h r).trig = s.trig := by
  rfl

@[simp] theorem State.setHeater_energy (s : State) (h : Heater) (r : HeaterRec) : (s.setHeater h r).energy = s.energy := by
  rfl

@[simp] theorem State.setHeater_settings (s : State) (h : Heater) (r : HeaterRec) : (s.setHeater h r).settings = s.settings := by
  rfl

@[simp] theorem State.setHeater_pins (s : State) (h : Heater) (r : HeaterRec) : (s.setHeater h r).pins = s.pins := by
  rfl

@[simp] theorem State.setHeater_pending (s : State) (h : Heater) (r : HeaterRec) : (s.setHeater h r).pending = s.pending := by
  rfl

@[simp] theorem State.setHeater_front (s : State) (h : Heater) (r : HeaterRec) : (s.setHeater h r).front = s.front := by
  rfl

@[simp] theorem State.setHeater_store (s : State) (h : Heater) (r : HeaterRec) : (s.setHeater h r).store = s.store := by
  rfl

@[simp] theorem State.setHeater_alerts (s : State) (h : Heater) (r : HeaterRec) : (s.setHeater h r).alerts = s.alerts := by
  rfl

@[simp] theorem State.setHeater_cat (s : State) (h : Heater) (r : HeaterRec) : (s.setHeater h r).cat = s.cat := by
  rfl

@[simp] theorem State.setHeater_restartsDue (s : State) (h : Heater) (r : HeaterRec) : (s.setHeater h r).restartsDue = s.restartsDue := by
  rfl

@[simp] theorem State.setHeater_draws (s : State) (h : Heater) (r : HeaterRec) : (s.setHeater h r).draws = s.draws := by
  rfl

@[simp] theorem State.moveHeater_tb (s : State) (h : Heater) (x : HeaterState) : (s.moveHeater h x).tb = s.tb := by
  simp only [State.moveHeater]
  split <;> simp

@[simp] theorem State.moveHeater_settings (s : State) (h : Heater) (x : HeaterState) : (s.moveHeater h x).settings = s.settings := by
  simp only [State.moveHeater]
  split <;> simp

@[simp] theorem State.moveHeater_pins (s : State) (h : Heater) (x : HeaterState) : (s.moveHeater h x).pins = s.pins := by
  simp only [State.moveHeater]
  split <;> simp

@[simp] theorem State.moveHeater_pending (s : State) (h : Heater) (x : HeaterState) : (s.moveHeater h x).pending = s.pending := by
  simp only [State.moveHeater]
  split <;> simp

@[simp] theorem State.moveHeater_restartsDue (s : State) (h : Heater) (x : HeaterState) : (s.moveHeater h x).restartsDue = s.restartsDue := by
  simp only [State.moveHeater]
  split <;> simp

@[simp] theorem State.moveHeater_draws (s : State) (h : Heater) (x : HeaterState) : (s.moveHeater h x).draws = s.draws := by
  simp only [State.moveHeater]
  split <;> simp

@[simp] theorem State.evaluateHeater_tb (s : State) (h : Heater) : (s.evaluateHeater h).tb = s.tb := by
  simp [State.evaluateHeater]

@[simp] theorem State.evaluateHeater_settings (s : State) (h : Heater) : (s.evaluateHeater h).settings = s.settings := by
  simp [State.evaluateHeater]

@[simp] theorem State.evaluateHeater_pins (s : State) (h : Heater) : (s.evaluateHeater h).pins = s.pins := by
  simp [State.evaluateHeater]

@[simp] theorem State.evaluateHeater_pending (s : State) (h : Heater) : (s.evaluateHeater h).pending = s.pending := by
  simp [State.evaluateHeater]

@[simp] theorem State.evaluateHeater_restartsDue (s : State) (h : Heater) : (s.evaluateHeater h).restartsDue = s.restartsDue := by
  simp [State.evaluateHeater]

@[simp] theorem State.evaluateHeater_draws (s : State) (h : Heater) : (s.evaluateHeater h).draws = s.draws := by
  simp [State.evaluateHeater]

@[simp] theorem State.evaluateHeaters_tb (s : State) : (s.evaluateHeaters).tb = s.tb := by
  simp [State.evaluateHeaters]

@[simp] theorem State.evaluateHeaters_settings (s : State) : (s.evaluateHeaters).settings = s.settings := by
  simp [State.evaluateHeaters]

@[simp] theorem State.evaluateHeaters_pins (s : State) : (s.evaluateHeaters).pins = s.pins := by
  simp [State.evaluateHeaters]

@[simp] theorem State.evaluateHeaters_pending (s : State) : (s.evaluateHeaters).pending = s.pending := by
  simp [State.evaluateHeaters]

@[simp] theorem State.evaluateHeaters_restartsDue (s : State) : (s.evaluateHeaters).restartsDue = s.restartsDue := by
  simp [State.evaluateHeaters]

@[simp] theorem State.evaluateHeaters_draws (s : State) : (s.evaluateHeaters).draws = s.draws := by
  simp [State.evaluateHeaters]

@[simp] theorem State.dwellTimer_tb (s : State) (h : Heater) : (s.dwellTimer h).tb = s.tb := by
  simp only [State.dwellTimer]
  split <;> simp

@[simp] theorem State.dwellTimer_settings (s : State) (h : Heater) : (s.dwellTimer h).settings = s.settings := by
  simp only [State.dwellTimer]
  split <;> simp

@[simp] theorem State.dwellTimer_pins (s : State) (h : Heater) : (s.dwellTimer h).pins = s.pins := by
  simp only [State.dwellTimer]
  split <;> simp

@[simp] theorem State.dwellTimer_pending (s : State) (h : Heater) : (s.dwellTimer h).pending = s.pending := by
  simp only [State.dwellTimer]
  split <;> simp

@[simp] theorem State.dwellTimer_restartsDue (s : State) (h : Heater) : (s.dwellTimer h).restartsDue = s.restartsDue := by
  simp only [State.dwellTimer]
  split <;> simp

@[simp] theorem State.dwellTimer_draws (s : State) (h : Heater) : (s.dwellTimer h).draws = s.draws := by
  simp only [State.dwellTimer]
  split <;> simp

@[simp] theorem State.phaseTimer_tb (s : State) (h : Heater) : (s.phaseTimer h).tb = s.tb := by
  simp only [State.phaseTimer]
  (repeat' split) <;> simp

@[simp] theorem State.phaseTimer_settings (s : State) (h : Heater) : (s.phaseTimer h).settings = s.settings := by
  simp only [State.phaseTimer]
  (repeat' split) <;> simp

@[simp] theorem State.phaseTimer_pins (s : State) (h : Heater) : (s.phaseTimer h).pins = s.pins := by
  simp only [State.phaseTimer]
  (repeat' split) <;> simp

@[simp] theorem State.phaseTimer_pending (s : State) (h : Heater) : (s.phaseTimer h).pending = s.pending := by
  simp only [State.phaseTimer]
  (repeat' split) <;> simp

@[simp] theorem State.phaseTimer_restartsDue (s : State) (h : Heater) : (s.phaseTimer h).restartsDue = s.restartsDue := by
  simp only [State.phaseTimer]
  (repeat' split) <;> simp

@[simp] theorem State.phaseTimer_draws (s : State) (h : Heater) : (s.phaseTimer h).draws = s.draws := by
  simp only [State.phaseTimer]
  (repeat' split) <;> simp

@[simp] theorem State.heaterFault_tb (s : State) (h : Heater) : (s.heaterFault h).tb = s.tb := by
  simp [State.heaterFault]

@[simp] theorem State.heaterFault_settings (s : State) (h : Heater) : (s.heaterFault h).settings = s.settings := by
  simp [State.heaterFault]

@[simp] theorem State.heaterFault_pins (s : State) (h : Heater) : (s.heaterFault h).pins = s.pins := by
  simp [State.heaterFault]

@[simp] theorem State.heaterFault_pending (s : State) (h : Heater) : (s.heaterFault h).pending = s.pending := by
  simp [State.heaterFault]

@[simp] theorem State.heaterFault_restartsDue (s : State) (h : Heater) : (s.heaterFault h).restartsDue = s.restartsDue := by
  simp [State.heaterFault]

@[simp] theorem State.heaterFault_draws (s : State) (h : Heater) : (s.heaterFault h).draws = s.draws := by
  simp [State.heaterFault]

@[simp] theorem State.heaterCleared_tb (s : State) (h : Heater) : (s.heaterCleared h).tb = s.tb := by
  simp [State.heaterCleared]

@[simp] theorem State.heaterCleared_settings (s : State) (h : Heater) : (s.heaterCleared h).settings = s.settings := by
  simp [State.heaterCleared]

@[simp] theorem State.heaterCleared_pins (s : State) (h : Heater) : (s.heaterCleared h).pins = s.pins := by
  simp [State.heaterCleared]

@[simp] theorem State.heaterCleared_pending (s : State) (h : Heater) : (s.heaterCleared h).pending = s.pending := by
  simp [State.heaterCleared]

@[simp] theorem State.heaterCleared_restartsDue (s : State) (h : Heater) : (s.heaterCleared h).restartsDue = s.restartsDue := by
  simp [State.heaterCleared]

@[simp] theorem State.heaterCleared_draws (s : State) (h : Heater) : (s.heaterCleared h).draws = s.draws := by
  simp [State.heaterCleared]

@[simp] theorem State.sourceReport_tb (s : State) (b : Bool) : (s.sourceReport b).tb = s.tb := by
  simp [State.sourceReport]

@[simp] theorem State.sourceReport_settings (s : State) (b : Bool) : (s.sourceReport b).settings = s.settings := by
  simp [State.sourceReport]

@[simp] theorem State.sourceReport_pins (s : State) (b : Bool) : (s.sourceReport b).pins = s.pins := by
  simp [State.sourceReport]

@[simp] theorem State.sourceReport_pending (s : State) (b : Bool) : (s.sourceReport b).pending = s.pending := by
  simp [State.sourceReport]

@[simp] theorem State.sourceReport_restartsDue (s : State) (b : Bool) : (s.sourceReport b).restartsDue = s.restartsDue := by
  simp [State.sourceReport]

@[simp] theorem State.sourceReport_draws (s : State) (b : Bool) : (s.sourceReport b).draws = s.draws := by
  simp [State.sourceReport]

@[simp] theorem State.levelToThermal_tb (s : State) (l : Level) : (s.levelToThermal l).tb = s.tb := by
  simp [State.levelToThermal]

@[simp] theorem State.levelToThermal_settings (s : State) (l : Level) : (s.levelToThermal l).settings = s.settings := by
  simp [State.levelToThermal]

@[simp] theorem State.levelToThermal_pins (s : State) (l : Level) : (s.levelToThermal l).pins = s.pins := by
  simp [State.levelToThermal]

@[simp] theorem State.levelToThermal_pending (s : State) (l : Level) : (s.levelToThermal l).pending = s.pending := by
  simp [State.levelToThermal]

@[simp] theorem State.levelToThermal_restartsDue (s : State) (l : Level) : (s.levelToThermal l).restartsDue = s.restartsDue := by
  simp [State.levelToThermal]

@[simp] theorem State.levelToThermal_draws (s : State) (l : Level) : (s.levelToThermal l).draws = s.draws := by
  simp [State.levelToThermal]

@[simp] theorem State.startAcquisition_tb (s : State) : (s.startAcquisition).tb = s.tb := by
  rfl

@[simp] theorem State.startAcquisition_trig (s : State) : (s.startAcquisition).trig = s.trig := by
  rfl

@[simp] theorem State.startAcquisition_energy (s : State) : (s.startAcquisition).energy = s.energy := by
  rfl

@[simp] theorem State.startAcquisition_settings (s : State) : (s.startAcquisition).settings = s.settings := by
  rfl

@[simp] theorem State.startAcquisition_pins (s : State) : (s.startAcquisition).pins = s.pins := by
  rfl

@[simp] theorem State.startAcquisition_pending (s : State) : (s.startAcquisition).pending = s.pending := by
  rfl

@[simp] theorem State.startAcquisition_front (s : State) : (s.startAcquisition).front = s.front := by
  rfl

@[simp] theorem State.startAcquisition_store (s : State) : (s.startAcquisition).store = s.store := by
  rfl

@[simp] theorem State.startAcquisition_alerts (s : State) : (s.startAcquisition).alerts = s.alerts := by
  rfl

@[simp] theorem State.startAcquisition_cat (s : State) : (s.startAcquisition).cat = s.cat := by
  rfl

@[simp] theorem State.startAcquisition_restartsDue (s : State) : (s.startAcquisition).restartsDue = s.restartsDue := by
  rfl

@[simp] theorem State.startAcquisition_draws (s : State) : (s.startAcquisition).draws = s.draws := by
  rfl

@[simp] theorem State.acquisitionTimer_tb (s : State) : (s.acquisitionTimer).tb = s.tb := by
  simp only [State.acquisitionTimer]
  (repeat' split) <;> simp

@[simp] theorem State.acquisitionTimer_trig (s : State) : (s.acquisitionTimer).trig = s.trig := by
  simp only [State.acquisitionTimer]
  (repeat' split) <;> simp

@[simp] theorem State.acquisitionTimer_energy (s : State) : (s.acquisitionTimer).energy = s.energy := by
  simp only [State.acquisitionTimer]
  (repeat' split) <;> simp

@[simp] theorem State.acquisitionTimer_settings (s : State) : (s.acquisitionTimer).settings = s.settings := by
  simp only [State.acquisitionTimer]
  (repeat' split) <;> simp

@[simp] theorem State.acquisitionTimer_pins (s : State) : (s.acquisitionTimer).pins = s.pins := by
  simp only [State.acquisitionTimer]
  (repeat' split) <;> simp

@[simp] theorem State.acquisitionTimer_pending (s : State) : (s.acquisitionTimer).pending = s.pending := by
  simp only [State.acquisitionTimer]
  (repeat' split) <;> simp

@[simp] theorem State.acquisitionTimer_front (s : State) : (s.acquisitionTimer).front = s.front := by
  simp only [State.acquisitionTimer]
  (repeat' split) <;> simp

@[simp] theorem State.acquisitionTimer_store (s : State) : (s.acquisitionTimer).store = s.store := by
  simp only [State.acquisitionTimer]
  (repeat' split) <;> simp

@[simp] theorem State.acquisitionTimer_alerts (s : State) : (s.acquisitionTimer).alerts = s.alerts := by
  simp only [State.acquisitionTimer]
  (repeat' split) <;> simp

@[simp] theorem State.acquisitionTimer_cat (s : State) : (s.acquisitionTimer).cat = s.cat := by
  simp only [State.acquisitionTimer]
  (repeat' split) <;> simp

@[simp] theorem State.acquisitionTimer_restartsDue (s : State) : (s.acquisitionTimer).restartsDue = s.restartsDue := by
  simp only [State.acquisitionTimer]
  (repeat' split) <;> simp

@[simp] theorem State.acquisitionTimer_draws (s : State) : (s.acquisitionTimer).draws = s.draws := by
  simp only [State.acquisitionTimer]
  (repeat' split) <;> simp

@[simp] theorem State.readChannel_tb (s : State) (c : Channel) (n : Nat) : (s.readChannel c n).tb = s.tb := by
  simp only [State.readChannel]
  split <;> simp

@[simp] theorem State.readChannel_trig (s : State) (c : Channel) (n : Nat) : (s.readChannel c n).trig = s.trig := by
  simp only [State.readChannel]
  split <;> simp

@[simp] theorem State.readChannel_energy (s : State) (c : Channel) (n : Nat) : (s.readChannel c n).energy = s.energy := by
  simp only [State.readChannel]
  split <;> simp

@[simp] theorem State.readChannel_settings (s : State) (c : Channel) (n : Nat) : (s.readChannel c n).settings = s.settings := by
  simp only [State.readChannel]
  split <;> simp

@[simp] theorem State.readChannel_pins (s : State) (c : Channel) (n : Nat) : (s.readChannel c n).pins = s.pins := by
  simp only [State.readChannel]
  split <;> simp

@[simp] theorem State.readChannel_pending (s : State) (c : Channel) (n : Nat) : (s.readChannel c n).pending = s.pending := by
  simp only [State.readChannel]
  split <;> simp

@[simp] theorem State.readChannel_front (s : State) (c : Channel) (n : Nat) : (s.readChannel c n).front = s.front := by
  simp only [State.readChannel]
  split <;> simp

@[simp] theorem State.readChannel_store (s : State) (c : Channel) (n : Nat) : (s.readChannel c n).store = s.store := by
  simp only [State.readChannel]
  split <;> simp

@[simp] theorem State.readChannel_restartsDue (s : State) (c : Channel) (n : Nat) : (s.readChannel c n).restartsDue = s.restartsDue := by
  simp only [State.readChannel]
  split <;> simp

@[simp] theorem State.readChannel_draws (s : State) (c : Channel) (n : Nat) : (s.readChannel c n).draws = s.draws := by
  simp only [State.readChannel]
  split <;> simp

@[simp] theorem State.vaultCheck_tb (s : State) : (s.vaultCheck).tb = s.tb := by
  simp only [State.vaultCheck]
  (repeat' split) <;> simp

@[simp] theorem State.vaultCheck_trig (s : State) : (s.vaultCheck).trig = s.trig := by
  simp only [State.vaultCheck]
  (repeat' split) <;> simp

@[simp] theorem State.vaultCheck_energy (s : State) : (s.vaultCheck).energy = s.energy := by
  simp only [State.vaultCheck]
  (repeat' split) <;> simp

@[simp] theorem State.vaultCheck_settings (s : State) : (s.vaultCheck).settings = s.settings := by
  simp only [State.vaultCheck]
  (repeat' split) <;> simp

@[simp] theorem State.vaultCheck_pins (s : State) : (s.vaultCheck).pins = s.pins := by
  simp only [State.vaultCheck]
  (repeat' split) <;> simp

@[simp] theorem State.vaultCheck_pending (s : State) : (s.vaultCheck).pending = s.pending := by
  simp only [State.vaultCheck]
  (repeat' split) <;> simp

@[simp] theorem State.vaultCheck_front (s : State) : (s.vaultCheck).front = s.front := by
  simp only [State.vaultCheck]
  (repeat' split) <;> simp

@[simp] theorem State.vaultCheck_store (s : State) : (s.vaultCheck).store = s.store := by
  simp only [State.vaultCheck]
  (repeat' split) <;> simp

@[simp] theorem State.vaultCheck_restartsDue (s : State) : (s.vaultCheck).restartsDue = s.restartsDue := by
  simp only [State.vaultCheck]
  (repeat' split) <;> simp

@[simp] theorem State.vaultCheck_draws (s : State) : (s.vaultCheck).draws = s.draws := by
  simp only [State.vaultCheck]
  (repeat' split) <;> simp

@[simp] theorem State.overtemperature_tb (s : State) (h : Heater) : (s.overtemperature h).tb = s.tb := by
  simp only [State.overtemperature]
  (repeat' split) <;> simp

@[simp] theorem State.overtemperature_trig (s : State) (h : Heater) : (s.overtemperature h).trig = s.trig := by
  simp only [State.overtemperature]
  (repeat' split) <;> simp

@[simp] theorem State.overtemperature_energy (s : State) (h : Heater) : (s.overtemperature h).energy = s.energy := by
  simp only [State.overtemperature]
  (repeat' split) <;> simp

@[simp] theorem State.overtemperature_settings (s : State) (h : Heater) : (s.overtemperature h).settings = s.settings := by
  simp only [State.overtemperature]
  (repeat' split) <;> simp

@[simp] theorem State.overtemperature_pins (s : State) (h : Heater) : (s.overtemperature h).pins = s.pins := by
  simp only [State.overtemperature]
  (repeat' split) <;> simp

@[simp] theorem State.overtemperature_pending (s : State) (h : Heater) : (s.overtemperature h).pending = s.pending := by
  simp only [State.overtemperature]
  (repeat' split) <;> simp

@[simp] theorem State.overtemperature_front (s : State) (h : Heater) : (s.overtemperature h).front = s.front := by
  simp only [State.overtemperature]
  (repeat' split) <;> simp

@[simp] theorem State.overtemperature_store (s : State) (h : Heater) : (s.overtemperature h).store = s.store := by
  simp only [State.overtemperature]
  (repeat' split) <;> simp

@[simp] theorem State.overtemperature_restartsDue (s : State) (h : Heater) : (s.overtemperature h).restartsDue = s.restartsDue := by
  simp only [State.overtemperature]
  (repeat' split) <;> simp

@[simp] theorem State.overtemperature_draws (s : State) (h : Heater) : (s.overtemperature h).draws = s.draws := by
  simp only [State.overtemperature]
  (repeat' split) <;> simp

@[simp] theorem State.heaterAfterReading_tb (s : State) (h : Heater) : (s.heaterAfterReading h).tb = s.tb := by
  simp [State.heaterAfterReading]

@[simp] theorem State.heaterAfterReading_settings (s : State) (h : Heater) : (s.heaterAfterReading h).settings = s.settings := by
  simp [State.heaterAfterReading]

@[simp] theorem State.heaterAfterReading_pins (s : State) (h : Heater) : (s.heaterAfterReading h).pins = s.pins := by
  simp [State.heaterAfterReading]

@[simp] theorem State.heaterAfterReading_pending (s : State) (h : Heater) : (s.heaterAfterReading h).pending = s.pending := by
  simp [State.heaterAfterReading]

@[simp] theorem State.heaterAfterReading_restartsDue (s : State) (h : Heater) : (s.heaterAfterReading h).restartsDue = s.restartsDue := by
  simp [State.heaterAfterReading]

@[simp] theorem State.heaterAfterReading_draws (s : State) (h : Heater) : (s.heaterAfterReading h).draws = s.draws := by
  simp [State.heaterAfterReading]

@[simp] theorem State.applyReadings_settings (s : State) (a b c d : Nat) : (s.applyReadings a b c d).settings = s.settings := by
  simp [State.applyReadings]

@[simp] theorem State.applyReadings_pins (s : State) (a b c d : Nat) : (s.applyReadings a b c d).pins = s.pins := by
  simp [State.applyReadings]

@[simp] theorem State.applyReadings_pending (s : State) (a b c d : Nat) : (s.applyReadings a b c d).pending = s.pending := by
  simp [State.applyReadings]

@[simp] theorem State.applyReadings_restartsDue (s : State) (a b c d : Nat) : (s.applyReadings a b c d).restartsDue = s.restartsDue := by
  simp [State.applyReadings]

@[simp] theorem State.applyReadings_draws (s : State) (a b c d : Nat) : (s.applyReadings a b c d).draws = s.draws := by
  simp [State.applyReadings]

@[simp] theorem State.restartThermal_tb (s : State) : (s.restartThermal).tb = s.tb := by
  simp [State.restartThermal]

@[simp] theorem State.restartThermal_settings (s : State) : (s.restartThermal).settings = s.settings := by
  simp [State.restartThermal]

@[simp] theorem State.restartThermal_pins (s : State) : (s.restartThermal).pins = s.pins := by
  simp [State.restartThermal]

@[simp] theorem State.restartThermal_pending (s : State) : (s.restartThermal).pending = s.pending := by
  simp [State.restartThermal]

@[simp] theorem State.restartThermal_restartsDue (s : State) : (s.restartThermal).restartsDue = s.restartsDue := by
  simp [State.restartThermal]

@[simp] theorem State.restartThermal_draws (s : State) : (s.restartThermal).draws = s.draws := by
  simp [State.restartThermal]

@[simp] theorem State.noteClock_tb (s : State) (b : Timebase) : (s.noteClock b).tb = s.tb := by
  simp only [State.noteClock]
  (repeat' split) <;> simp

@[simp] theorem State.noteClock_trig (s : State) (b : Timebase) : (s.noteClock b).trig = s.trig := by
  simp only [State.noteClock]
  (repeat' split) <;> simp

@[simp] theorem State.noteClock_thermal (s : State) (b : Timebase) : (s.noteClock b).thermal = s.thermal := by
  simp only [State.noteClock]
  (repeat' split) <;> simp

@[simp] theorem State.noteClock_energy (s : State) (b : Timebase) : (s.noteClock b).energy = s.energy := by
  simp only [State.noteClock]
  (repeat' split) <;> simp

@[simp] theorem State.noteClock_settings (s : State) (b : Timebase) : (s.noteClock b).settings = s.settings := by
  simp only [State.noteClock]
  (repeat' split) <;> simp

@[simp] theorem State.noteClock_pins (s : State) (b : Timebase) : (s.noteClock b).pins = s.pins := by
  simp only [State.noteClock]
  (repeat' split) <;> simp

@[simp] theorem State.noteClock_pending (s : State) (b : Timebase) : (s.noteClock b).pending = s.pending := by
  simp only [State.noteClock]
  (repeat' split) <;> simp

@[simp] theorem State.noteClock_front (s : State) (b : Timebase) : (s.noteClock b).front = s.front := by
  simp only [State.noteClock]
  (repeat' split) <;> simp

@[simp] theorem State.noteClock_store (s : State) (b : Timebase) : (s.noteClock b).store = s.store := by
  simp only [State.noteClock]
  (repeat' split) <;> simp

@[simp] theorem State.noteClock_restartsDue (s : State) (b : Timebase) : (s.noteClock b).restartsDue = s.restartsDue := by
  simp only [State.noteClock]
  (repeat' split) <;> simp

@[simp] theorem State.noteClock_draws (s : State) (b : Timebase) : (s.noteClock b).draws = s.draws := by
  simp only [State.noteClock]
  (repeat' split) <;> simp

@[simp] theorem State.reloadSchedule_trig (s : State) : (s.reloadSchedule).trig = s.trig := by
  rfl

@[simp] theorem State.reloadSchedule_thermal (s : State) : (s.reloadSchedule).thermal = s.thermal := by
  rfl

@[simp] theorem State.reloadSchedule_energy (s : State) : (s.reloadSchedule).energy = s.energy := by
  rfl

@[simp] theorem State.reloadSchedule_settings (s : State) : (s.reloadSchedule).settings = s.settings := by
  rfl

@[simp] theorem State.reloadSchedule_pins (s : State) : (s.reloadSchedule).pins = s.pins := by
  rfl

@[simp] theorem State.reloadSchedule_pending (s : State) : (s.reloadSchedule).pending = s.pending := by
  rfl

@[simp] theorem State.reloadSchedule_front (s : State) : (s.reloadSchedule).front = s.front := by
  rfl

@[simp] theorem State.reloadSchedule_store (s : State) : (s.reloadSchedule).store = s.store := by
  rfl

@[simp] theorem State.reloadSchedule_alerts (s : State) : (s.reloadSchedule).alerts = s.alerts := by
  rfl

@[simp] theorem State.reloadSchedule_cat (s : State) : (s.reloadSchedule).cat = s.cat := by
  rfl

@[simp] theorem State.reloadSchedule_restartsDue (s : State) : (s.reloadSchedule).restartsDue = s.restartsDue := by
  rfl

@[simp] theorem State.reloadSchedule_draws (s : State) : (s.reloadSchedule).draws = s.draws := by
  rfl

@[simp] theorem State.startSession_thermal (s : State) : (s.startSession).thermal = s.thermal := by
  simp [State.startSession]

@[simp] theorem State.startSession_settings (s : State) : (s.startSession).settings = s.settings := by
  simp [State.startSession]

@[simp] theorem State.startSession_pins (s : State) : (s.startSession).pins = s.pins := by
  simp [State.startSession]

@[simp] theorem State.startSession_pending (s : State) : (s.startSession).pending = s.pending := by
  simp [State.startSession]

@[simp] theorem State.startSession_restartsDue (s : State) : (s.startSession).restartsDue = s.restartsDue := by
  simp [State.startSession]

@[simp] theorem State.startSession_draws (s : State) : (s.startSession).draws = s.draws := by
  simp [State.startSession]

@[simp] theorem State.scheduleTimer_thermal (s : State) : (s.scheduleTimer).thermal = s.thermal := by
  simp only [State.scheduleTimer]
  (repeat' split) <;> simp

@[simp] theorem State.scheduleTimer_settings (s : State) : (s.scheduleTimer).settings = s.settings := by
  simp only [State.scheduleTimer]
  (repeat' split) <;> simp

@[simp] theorem State.scheduleTimer_pins (s : State) : (s.scheduleTimer).pins = s.pins := by
  simp only [State.scheduleTimer]
  (repeat' split) <;> simp

@[simp] theorem State.scheduleTimer_pending (s : State) : (s.scheduleTimer).pending = s.pending := by
  simp only [State.scheduleTimer]
  (repeat' split) <;> simp

@[simp] theorem State.scheduleTimer_restartsDue (s : State) : (s.scheduleTimer).restartsDue = s.restartsDue := by
  simp only [State.scheduleTimer]
  (repeat' split) <;> simp

@[simp] theorem State.scheduleTimer_draws (s : State) : (s.scheduleTimer).draws = s.draws := by
  simp only [State.scheduleTimer]
  (repeat' split) <;> simp

@[simp] theorem State.holdOffDue_trig (s : State) : (s.holdOffDue).trig = s.trig := by
  simp only [State.holdOffDue]
  split <;> simp

@[simp] theorem State.holdOffDue_thermal (s : State) : (s.holdOffDue).thermal = s.thermal := by
  simp only [State.holdOffDue]
  split <;> simp

@[simp] theorem State.holdOffDue_energy (s : State) : (s.holdOffDue).energy = s.energy := by
  simp only [State.holdOffDue]
  split <;> simp

@[simp] theorem State.holdOffDue_settings (s : State) : (s.holdOffDue).settings = s.settings := by
  simp only [State.holdOffDue]
  split <;> simp

@[simp] theorem State.holdOffDue_pins (s : State) : (s.holdOffDue).pins = s.pins := by
  simp only [State.holdOffDue]
  split <;> simp

@[simp] theorem State.holdOffDue_pending (s : State) : (s.holdOffDue).pending = s.pending := by
  simp only [State.holdOffDue]
  split <;> simp

@[simp] theorem State.holdOffDue_front (s : State) : (s.holdOffDue).front = s.front := by
  simp only [State.holdOffDue]
  split <;> simp

@[simp] theorem State.holdOffDue_store (s : State) : (s.holdOffDue).store = s.store := by
  simp only [State.holdOffDue]
  split <;> simp

@[simp] theorem State.holdOffDue_alerts (s : State) : (s.holdOffDue).alerts = s.alerts := by
  simp only [State.holdOffDue]
  split <;> simp

@[simp] theorem State.holdOffDue_cat (s : State) : (s.holdOffDue).cat = s.cat := by
  simp only [State.holdOffDue]
  split <;> simp

@[simp] theorem State.holdOffDue_restartsDue (s : State) : (s.holdOffDue).restartsDue = s.restartsDue := by
  simp only [State.holdOffDue]
  split <;> simp

@[simp] theorem State.holdOffDue_draws (s : State) : (s.holdOffDue).draws = s.draws := by
  simp only [State.holdOffDue]
  split <;> simp

@[simp] theorem State.thresholdSession_thermal (s : State) : (s.thresholdSession).thermal = s.thermal := by
  simp only [State.thresholdSession]
  split <;> simp

@[simp] theorem State.thresholdSession_settings (s : State) : (s.thresholdSession).settings = s.settings := by
  simp only [State.thresholdSession]
  split <;> simp

@[simp] theorem State.thresholdSession_pins (s : State) : (s.thresholdSession).pins = s.pins := by
  simp only [State.thresholdSession]
  split <;> simp

@[simp] theorem State.thresholdSession_pending (s : State) : (s.thresholdSession).pending = s.pending := by
  simp only [State.thresholdSession]
  split <;> simp

@[simp] theorem State.thresholdSession_restartsDue (s : State) : (s.thresholdSession).restartsDue = s.restartsDue := by
  simp only [State.thresholdSession]
  split <;> simp

@[simp] theorem State.thresholdSession_draws (s : State) : (s.thresholdSession).draws = s.draws := by
  simp only [State.thresholdSession]
  split <;> simp

@[simp] theorem State.failSession_thermal (s : State) : (s.failSession).thermal = s.thermal := by
  simp only [State.failSession]
  (repeat' split) <;> simp

@[simp] theorem State.failSession_settings (s : State) : (s.failSession).settings = s.settings := by
  simp only [State.failSession]
  (repeat' split) <;> simp

@[simp] theorem State.failSession_pins (s : State) : (s.failSession).pins = s.pins := by
  simp only [State.failSession]
  (repeat' split) <;> simp

@[simp] theorem State.failSession_pending (s : State) : (s.failSession).pending = s.pending := by
  simp only [State.failSession]
  (repeat' split) <;> simp

@[simp] theorem State.failSession_restartsDue (s : State) : (s.failSession).restartsDue = s.restartsDue := by
  simp only [State.failSession]
  (repeat' split) <;> simp

@[simp] theorem State.failSession_draws (s : State) : (s.failSession).draws = s.draws := by
  simp only [State.failSession]
  (repeat' split) <;> simp

@[simp] theorem State.sessionLimit_thermal (s : State) : (s.sessionLimit).thermal = s.thermal := by
  simp only [State.sessionLimit]
  split <;> simp

@[simp] theorem State.sessionLimit_settings (s : State) : (s.sessionLimit).settings = s.settings := by
  simp only [State.sessionLimit]
  split <;> simp

@[simp] theorem State.sessionLimit_pins (s : State) : (s.sessionLimit).pins = s.pins := by
  simp only [State.sessionLimit]
  split <;> simp

@[simp] theorem State.sessionLimit_pending (s : State) : (s.sessionLimit).pending = s.pending := by
  simp only [State.sessionLimit]
  split <;> simp

@[simp] theorem State.sessionLimit_restartsDue (s : State) : (s.sessionLimit).restartsDue = s.restartsDue := by
  simp only [State.sessionLimit]
  split <;> simp

@[simp] theorem State.sessionLimit_draws (s : State) : (s.sessionLimit).draws = s.draws := by
  simp only [State.sessionLimit]
  split <;> simp

@[simp] theorem State.levelToTimebase_thermal (s : State) (l : Level) : (s.levelToTimebase l).thermal = s.thermal := by
  simp only [State.levelToTimebase]
  split <;> simp

@[simp] theorem State.levelToTimebase_settings (s : State) (l : Level) : (s.levelToTimebase l).settings = s.settings := by
  simp only [State.levelToTimebase]
  split <;> simp

@[simp] theorem State.levelToTimebase_pins (s : State) (l : Level) : (s.levelToTimebase l).pins = s.pins := by
  simp only [State.levelToTimebase]
  split <;> simp

@[simp] theorem State.levelToTimebase_pending (s : State) (l : Level) : (s.levelToTimebase l).pending = s.pending := by
  simp only [State.levelToTimebase]
  split <;> simp

@[simp] theorem State.levelToTimebase_restartsDue (s : State) (l : Level) : (s.levelToTimebase l).restartsDue = s.restartsDue := by
  simp only [State.levelToTimebase]
  split <;> simp

@[simp] theorem State.levelToTimebase_draws (s : State) (l : Level) : (s.levelToTimebase l).draws = s.draws := by
  simp only [State.levelToTimebase]
  split <;> simp

@[simp] theorem State.endSession_thermal (s : State) : (s.endSession).thermal = s.thermal := by
  simp [State.endSession]

@[simp] theorem State.endSession_settings (s : State) : (s.endSession).settings = s.settings := by
  simp [State.endSession]

@[simp] theorem State.endSession_pins (s : State) : (s.endSession).pins = s.pins := by
  simp [State.endSession]

@[simp] theorem State.endSession_pending (s : State) : (s.endSession).pending = s.pending := by
  simp [State.endSession]

@[simp] theorem State.endSession_restartsDue (s : State) : (s.endSession).restartsDue = s.restartsDue := by
  simp [State.endSession]

@[simp] theorem State.endSession_draws (s : State) : (s.endSession).draws = s.draws := by
  simp [State.endSession]

@[simp] theorem State.endLease_tb (s : State) (p : Port) (d : LeaseDomain) (e : EndReason) (q : Bool) : (s.endLease p d e q).tb = s.tb := by
  simp only [State.endLease]
  (repeat' split) <;> simp

@[simp] theorem State.endLease_thermal (s : State) (p : Port) (d : LeaseDomain) (e : EndReason) (q : Bool) : (s.endLease p d e q).thermal = s.thermal := by
  simp only [State.endLease]
  (repeat' split) <;> simp

@[simp] theorem State.endLease_settings (s : State) (p : Port) (d : LeaseDomain) (e : EndReason) (q : Bool) : (s.endLease p d e q).settings = s.settings := by
  simp only [State.endLease]
  (repeat' split) <;> simp

@[simp] theorem State.endLease_pins (s : State) (p : Port) (d : LeaseDomain) (e : EndReason) (q : Bool) : (s.endLease p d e q).pins = s.pins := by
  simp only [State.endLease]
  (repeat' split) <;> simp

@[simp] theorem State.endLease_pending (s : State) (p : Port) (d : LeaseDomain) (e : EndReason) (q : Bool) : (s.endLease p d e q).pending = s.pending := by
  simp only [State.endLease]
  (repeat' split) <;> simp

@[simp] theorem State.endLease_restartsDue (s : State) (p : Port) (d : LeaseDomain) (e : EndReason) (q : Bool) : (s.endLease p d e q).restartsDue = s.restartsDue := by
  simp only [State.endLease]
  (repeat' split) <;> simp

@[simp] theorem State.endLease_draws (s : State) (p : Port) (d : LeaseDomain) (e : EndReason) (q : Bool) : (s.endLease p d e q).draws = s.draws := by
  simp only [State.endLease]
  (repeat' split) <;> simp

@[simp] theorem State.endLeases_tb (s : State) (e : EndReason) (q : Bool) (l : List (Port × LeaseDomain)) : (s.endLeases e q l).tb = s.tb := by
  induction l generalizing s with
  | nil => rfl
  | cons _ _ ih => simp [State.endLeases, ih]

@[simp] theorem State.endLeases_thermal (s : State) (e : EndReason) (q : Bool) (l : List (Port × LeaseDomain)) : (s.endLeases e q l).thermal = s.thermal := by
  induction l generalizing s with
  | nil => rfl
  | cons _ _ ih => simp [State.endLeases, ih]

@[simp] theorem State.endLeases_settings (s : State) (e : EndReason) (q : Bool) (l : List (Port × LeaseDomain)) : (s.endLeases e q l).settings = s.settings := by
  induction l generalizing s with
  | nil => rfl
  | cons _ _ ih => simp [State.endLeases, ih]

@[simp] theorem State.endLeases_pins (s : State) (e : EndReason) (q : Bool) (l : List (Port × LeaseDomain)) : (s.endLeases e q l).pins = s.pins := by
  induction l generalizing s with
  | nil => rfl
  | cons _ _ ih => simp [State.endLeases, ih]

@[simp] theorem State.endLeases_pending (s : State) (e : EndReason) (q : Bool) (l : List (Port × LeaseDomain)) : (s.endLeases e q l).pending = s.pending := by
  induction l generalizing s with
  | nil => rfl
  | cons _ _ ih => simp [State.endLeases, ih]

@[simp] theorem State.endLeases_restartsDue (s : State) (e : EndReason) (q : Bool) (l : List (Port × LeaseDomain)) : (s.endLeases e q l).restartsDue = s.restartsDue := by
  induction l generalizing s with
  | nil => rfl
  | cons _ _ ih => simp [State.endLeases, ih]

@[simp] theorem State.endLeases_draws (s : State) (e : EndReason) (q : Bool) (l : List (Port × LeaseDomain)) : (s.endLeases e q l).draws = s.draws := by
  induction l generalizing s with
  | nil => rfl
  | cons _ _ ih => simp [State.endLeases, ih]

@[simp] theorem State.limitLease_tb (s : State) (v : Level) (p : Port) (d : LeaseDomain) : (s.limitLease v p d).tb = s.tb := by
  simp only [State.limitLease]
  (repeat' split) <;> simp

@[simp] theorem State.limitLease_thermal (s : State) (v : Level) (p : Port) (d : LeaseDomain) : (s.limitLease v p d).thermal = s.thermal := by
  simp only [State.limitLease]
  (repeat' split) <;> simp

@[simp] theorem State.limitLease_settings (s : State) (v : Level) (p : Port) (d : LeaseDomain) : (s.limitLease v p d).settings = s.settings := by
  simp only [State.limitLease]
  (repeat' split) <;> simp

@[simp] theorem State.limitLease_pins (s : State) (v : Level) (p : Port) (d : LeaseDomain) : (s.limitLease v p d).pins = s.pins := by
  simp only [State.limitLease]
  (repeat' split) <;> simp

@[simp] theorem State.limitLease_pending (s : State) (v : Level) (p : Port) (d : LeaseDomain) : (s.limitLease v p d).pending = s.pending := by
  simp only [State.limitLease]
  (repeat' split) <;> simp

@[simp] theorem State.limitLease_restartsDue (s : State) (v : Level) (p : Port) (d : LeaseDomain) : (s.limitLease v p d).restartsDue = s.restartsDue := by
  simp only [State.limitLease]
  (repeat' split) <;> simp

@[simp] theorem State.limitLease_draws (s : State) (v : Level) (p : Port) (d : LeaseDomain) : (s.limitLease v p d).draws = s.draws := by
  simp only [State.limitLease]
  (repeat' split) <;> simp

@[simp] theorem State.limitLeases_tb (s : State) (v : Level) (l : List (Port × LeaseDomain)) : (s.limitLeases v l).tb = s.tb := by
  induction l generalizing s with
  | nil => rfl
  | cons _ _ ih => simp [State.limitLeases, ih]

@[simp] theorem State.limitLeases_thermal (s : State) (v : Level) (l : List (Port × LeaseDomain)) : (s.limitLeases v l).thermal = s.thermal := by
  induction l generalizing s with
  | nil => rfl
  | cons _ _ ih => simp [State.limitLeases, ih]

@[simp] theorem State.limitLeases_settings (s : State) (v : Level) (l : List (Port × LeaseDomain)) : (s.limitLeases v l).settings = s.settings := by
  induction l generalizing s with
  | nil => rfl
  | cons _ _ ih => simp [State.limitLeases, ih]

@[simp] theorem State.limitLeases_pins (s : State) (v : Level) (l : List (Port × LeaseDomain)) : (s.limitLeases v l).pins = s.pins := by
  induction l generalizing s with
  | nil => rfl
  | cons _ _ ih => simp [State.limitLeases, ih]

@[simp] theorem State.limitLeases_pending (s : State) (v : Level) (l : List (Port × LeaseDomain)) : (s.limitLeases v l).pending = s.pending := by
  induction l generalizing s with
  | nil => rfl
  | cons _ _ ih => simp [State.limitLeases, ih]

@[simp] theorem State.limitLeases_restartsDue (s : State) (v : Level) (l : List (Port × LeaseDomain)) : (s.limitLeases v l).restartsDue = s.restartsDue := by
  induction l generalizing s with
  | nil => rfl
  | cons _ _ ih => simp [State.limitLeases, ih]

@[simp] theorem State.limitLeases_draws (s : State) (v : Level) (l : List (Port × LeaseDomain)) : (s.limitLeases v l).draws = s.draws := by
  induction l generalizing s with
  | nil => rfl
  | cons _ _ ih => simp [State.limitLeases, ih]

@[simp] theorem State.expireLease_tb (s : State) (p : Port) (d : LeaseDomain) : (s.expireLease p d).tb = s.tb := by
  simp only [State.expireLease]
  (repeat' split) <;> simp

@[simp] theorem State.expireLease_thermal (s : State) (p : Port) (d : LeaseDomain) : (s.expireLease p d).thermal = s.thermal := by
  simp only [State.expireLease]
  (repeat' split) <;> simp

@[simp] theorem State.expireLease_settings (s : State) (p : Port) (d : LeaseDomain) : (s.expireLease p d).settings = s.settings := by
  simp only [State.expireLease]
  (repeat' split) <;> simp

@[simp] theorem State.expireLease_pins (s : State) (p : Port) (d : LeaseDomain) : (s.expireLease p d).pins = s.pins := by
  simp only [State.expireLease]
  (repeat' split) <;> simp

@[simp] theorem State.expireLease_pending (s : State) (p : Port) (d : LeaseDomain) : (s.expireLease p d).pending = s.pending := by
  simp only [State.expireLease]
  (repeat' split) <;> simp

@[simp] theorem State.expireLease_restartsDue (s : State) (p : Port) (d : LeaseDomain) : (s.expireLease p d).restartsDue = s.restartsDue := by
  simp only [State.expireLease]
  (repeat' split) <;> simp

@[simp] theorem State.expireLease_draws (s : State) (p : Port) (d : LeaseDomain) : (s.expireLease p d).draws = s.draws := by
  simp only [State.expireLease]
  (repeat' split) <;> simp

@[simp] theorem State.expireLeases_tb (s : State) (l : List (Port × LeaseDomain)) : (s.expireLeases l).tb = s.tb := by
  induction l generalizing s with
  | nil => rfl
  | cons _ _ ih => simp [State.expireLeases, ih]

@[simp] theorem State.expireLeases_thermal (s : State) (l : List (Port × LeaseDomain)) : (s.expireLeases l).thermal = s.thermal := by
  induction l generalizing s with
  | nil => rfl
  | cons _ _ ih => simp [State.expireLeases, ih]

@[simp] theorem State.expireLeases_settings (s : State) (l : List (Port × LeaseDomain)) : (s.expireLeases l).settings = s.settings := by
  induction l generalizing s with
  | nil => rfl
  | cons _ _ ih => simp [State.expireLeases, ih]

@[simp] theorem State.expireLeases_pins (s : State) (l : List (Port × LeaseDomain)) : (s.expireLeases l).pins = s.pins := by
  induction l generalizing s with
  | nil => rfl
  | cons _ _ ih => simp [State.expireLeases, ih]

@[simp] theorem State.expireLeases_pending (s : State) (l : List (Port × LeaseDomain)) : (s.expireLeases l).pending = s.pending := by
  induction l generalizing s with
  | nil => rfl
  | cons _ _ ih => simp [State.expireLeases, ih]

@[simp] theorem State.expireLeases_restartsDue (s : State) (l : List (Port × LeaseDomain)) : (s.expireLeases l).restartsDue = s.restartsDue := by
  induction l generalizing s with
  | nil => rfl
  | cons _ _ ih => simp [State.expireLeases, ih]

@[simp] theorem State.expireLeases_draws (s : State) (l : List (Port × LeaseDomain)) : (s.expireLeases l).draws = s.draws := by
  induction l generalizing s with
  | nil => rfl
  | cons _ _ ih => simp [State.expireLeases, ih]

@[simp] theorem State.postLevel_tb (s : State) (l : Level) : (s.postLevel l).tb = s.tb := by
  simp only [State.postLevel]
  split <;> simp

@[simp] theorem State.postLevel_trig (s : State) (l : Level) : (s.postLevel l).trig = s.trig := by
  simp only [State.postLevel]
  split <;> simp

@[simp] theorem State.postLevel_thermal (s : State) (l : Level) : (s.postLevel l).thermal = s.thermal := by
  simp only [State.postLevel]
  split <;> simp

@[simp] theorem State.postLevel_energy (s : State) (l : Level) : (s.postLevel l).energy = s.energy := by
  simp only [State.postLevel]
  split <;> simp

@[simp] theorem State.postLevel_settings (s : State) (l : Level) : (s.postLevel l).settings = s.settings := by
  simp only [State.postLevel]
  split <;> simp

@[simp] theorem State.postLevel_pins (s : State) (l : Level) : (s.postLevel l).pins = s.pins := by
  simp only [State.postLevel]
  split <;> simp

@[simp] theorem State.postLevel_pending (s : State) (l : Level) : (s.postLevel l).pending = s.pending := by
  simp only [State.postLevel]
  split <;> simp

@[simp] theorem State.postLevel_front (s : State) (l : Level) : (s.postLevel l).front = s.front := by
  simp only [State.postLevel]
  split <;> simp

@[simp] theorem State.postLevel_store (s : State) (l : Level) : (s.postLevel l).store = s.store := by
  simp only [State.postLevel]
  split <;> simp

@[simp] theorem State.postLevel_restartsDue (s : State) (l : Level) : (s.postLevel l).restartsDue = s.restartsDue := by
  simp only [State.postLevel]
  split <;> simp

@[simp] theorem State.postLevel_draws (s : State) (l : Level) : (s.postLevel l).draws = s.draws := by
  simp only [State.postLevel]
  split <;> simp

@[simp] theorem State.levelDomains_tb (s : State) (b : Option Level) (l : Level) : (s.levelDomains b l).tb = s.tb := by
  simp only [State.levelDomains]
  (repeat' split) <;> simp

@[simp] theorem State.levelDomains_thermal (s : State) (b : Option Level) (l : Level) : (s.levelDomains b l).thermal = s.thermal := by
  simp only [State.levelDomains]
  (repeat' split) <;> simp

@[simp] theorem State.levelDomains_settings (s : State) (b : Option Level) (l : Level) : (s.levelDomains b l).settings = s.settings := by
  simp only [State.levelDomains]
  (repeat' split) <;> simp

@[simp] theorem State.levelDomains_pins (s : State) (b : Option Level) (l : Level) : (s.levelDomains b l).pins = s.pins := by
  simp only [State.levelDomains]
  (repeat' split) <;> simp

@[simp] theorem State.levelDomains_pending (s : State) (b : Option Level) (l : Level) : (s.levelDomains b l).pending = s.pending := by
  simp only [State.levelDomains]
  (repeat' split) <;> simp

@[simp] theorem State.levelDomains_restartsDue (s : State) (b : Option Level) (l : Level) : (s.levelDomains b l).restartsDue = s.restartsDue := by
  simp only [State.levelDomains]
  (repeat' split) <;> simp

@[simp] theorem State.levelDomains_draws (s : State) (b : Option Level) (l : Level) : (s.levelDomains b l).draws = s.draws := by
  simp only [State.levelDomains]
  (repeat' split) <;> simp

@[simp] theorem State.changeLevel_settings (s : State) (l : Level) : (s.changeLevel l).settings = s.settings := by
  simp only [State.changeLevel]
  split <;> simp

@[simp] theorem State.changeLevel_pins (s : State) (l : Level) : (s.changeLevel l).pins = s.pins := by
  simp only [State.changeLevel]
  split <;> simp

@[simp] theorem State.changeLevel_pending (s : State) (l : Level) : (s.changeLevel l).pending = s.pending := by
  simp only [State.changeLevel]
  split <;> simp

@[simp] theorem State.changeLevel_restartsDue (s : State) (l : Level) : (s.changeLevel l).restartsDue = s.restartsDue := by
  simp only [State.changeLevel]
  split <;> simp

@[simp] theorem State.changeLevel_draws (s : State) (l : Level) : (s.changeLevel l).draws = s.draws := by
  simp only [State.changeLevel]
  split <;> simp

@[simp] theorem State.measure_settings (s : State) (v : Nat) (i : Int) : (s.measure v i).settings = s.settings := by
  simp only [State.measure]
  (repeat' split) <;> simp

@[simp] theorem State.measure_pins (s : State) (v : Nat) (i : Int) : (s.measure v i).pins = s.pins := by
  simp only [State.measure]
  (repeat' split) <;> simp

@[simp] theorem State.measure_pending (s : State) (v : Nat) (i : Int) : (s.measure v i).pending = s.pending := by
  simp only [State.measure]
  (repeat' split) <;> simp

@[simp] theorem State.measure_restartsDue (s : State) (v : Nat) (i : Int) : (s.measure v i).restartsDue = s.restartsDue := by
  simp only [State.measure]
  (repeat' split) <;> simp

@[simp] theorem State.measure_draws (s : State) (v : Nat) (i : Int) : (s.measure v i).draws = s.draws := by
  simp only [State.measure]
  (repeat' split) <;> simp

@[simp] theorem State.faultConsequences_settings (s : State) (d : Domain) (b : Bool) : (s.faultConsequences d b).settings = s.settings := by
  simp only [State.faultConsequences]
  (repeat' split) <;> simp

@[simp] theorem State.faultConsequences_pins (s : State) (d : Domain) (b : Bool) : (s.faultConsequences d b).pins = s.pins := by
  simp only [State.faultConsequences]
  (repeat' split) <;> simp

@[simp] theorem State.faultConsequences_pending (s : State) (d : Domain) (b : Bool) : (s.faultConsequences d b).pending = s.pending := by
  simp only [State.faultConsequences]
  (repeat' split) <;> simp

@[simp] theorem State.faultConsequences_restartsDue (s : State) (d : Domain) (b : Bool) : (s.faultConsequences d b).restartsDue = s.restartsDue := by
  simp only [State.faultConsequences]
  (repeat' split) <;> simp

@[simp] theorem State.faultConsequences_draws (s : State) (d : Domain) (b : Bool) : (s.faultConsequences d b).draws = s.draws := by
  simp only [State.faultConsequences]
  (repeat' split) <;> simp

@[simp] theorem State.enterFault_settings (s : State) (d : Domain) : (s.enterFault d).settings = s.settings := by
  simp [State.enterFault]

@[simp] theorem State.enterFault_pins (s : State) (d : Domain) : (s.enterFault d).pins = s.pins := by
  simp [State.enterFault]

@[simp] theorem State.enterFault_pending (s : State) (d : Domain) : (s.enterFault d).pending = s.pending := by
  simp [State.enterFault]

@[simp] theorem State.enterFault_restartsDue (s : State) (d : Domain) : (s.enterFault d).restartsDue = s.restartsDue := by
  simp [State.enterFault]

@[simp] theorem State.enterFault_draws (s : State) (d : Domain) : (s.enterFault d).draws = s.draws := by
  simp [State.enterFault]

@[simp] theorem State.goodLost_settings (s : State) (d : Domain) : (s.goodLost d).settings = s.settings := by
  simp only [State.goodLost]
  split <;> simp

@[simp] theorem State.goodLost_pending (s : State) (d : Domain) : (s.goodLost d).pending = s.pending := by
  simp only [State.goodLost]
  split <;> simp

@[simp] theorem State.goodLost_restartsDue (s : State) (d : Domain) : (s.goodLost d).restartsDue = s.restartsDue := by
  simp only [State.goodLost]
  split <;> simp

@[simp] theorem State.goodLost_draws (s : State) (d : Domain) : (s.goodLost d).draws = s.draws := by
  simp only [State.goodLost]
  split <;> simp

@[simp] theorem State.sourceChange_settings (s : State) (b : Bool) : (s.sourceChange b).settings = s.settings := by
  simp only [State.sourceChange]
  split <;> simp

@[simp] theorem State.sourceChange_pending (s : State) (b : Bool) : (s.sourceChange b).pending = s.pending := by
  simp only [State.sourceChange]
  split <;> simp

@[simp] theorem State.sourceChange_restartsDue (s : State) (b : Bool) : (s.sourceChange b).restartsDue = s.restartsDue := by
  simp only [State.sourceChange]
  split <;> simp

@[simp] theorem State.sourceChange_draws (s : State) (b : Bool) : (s.sourceChange b).draws = s.draws := by
  simp only [State.sourceChange]
  split <;> simp

@[simp] theorem State.grantLease_tb (s : State) (p : Port) (d : LeaseDomain) (u : Purpose) (n : Nat) : (s.grantLease p d u n).tb = s.tb := by
  simp [State.grantLease]

@[simp] theorem State.grantLease_thermal (s : State) (p : Port) (d : LeaseDomain) (u : Purpose) (n : Nat) : (s.grantLease p d u n).thermal = s.thermal := by
  simp [State.grantLease]

@[simp] theorem State.grantLease_settings (s : State) (p : Port) (d : LeaseDomain) (u : Purpose) (n : Nat) : (s.grantLease p d u n).settings = s.settings := by
  simp [State.grantLease]

@[simp] theorem State.grantLease_pins (s : State) (p : Port) (d : LeaseDomain) (u : Purpose) (n : Nat) : (s.grantLease p d u n).pins = s.pins := by
  simp [State.grantLease]

@[simp] theorem State.grantLease_pending (s : State) (p : Port) (d : LeaseDomain) (u : Purpose) (n : Nat) : (s.grantLease p d u n).pending = s.pending := by
  simp [State.grantLease]

@[simp] theorem State.grantLease_restartsDue (s : State) (p : Port) (d : LeaseDomain) (u : Purpose) (n : Nat) : (s.grantLease p d u n).restartsDue = s.restartsDue := by
  simp [State.grantLease]

@[simp] theorem State.grantLease_draws (s : State) (p : Port) (d : LeaseDomain) (u : Purpose) (n : Nat) : (s.grantLease p d u n).draws = s.draws := by
  simp [State.grantLease]

@[simp] theorem State.judgeLease_tb (s : State) (p : Port) (d : LeaseDomain) (n : Int) (u : Purpose) : (s.judgeLease p d n u).tb = s.tb := by
  simp only [State.judgeLease]
  (repeat' split) <;> simp

@[simp] theorem State.judgeLease_thermal (s : State) (p : Port) (d : LeaseDomain) (n : Int) (u : Purpose) : (s.judgeLease p d n u).thermal = s.thermal := by
  simp only [State.judgeLease]
  (repeat' split) <;> simp

@[simp] theorem State.judgeLease_settings (s : State) (p : Port) (d : LeaseDomain) (n : Int) (u : Purpose) : (s.judgeLease p d n u).settings = s.settings := by
  simp only [State.judgeLease]
  (repeat' split) <;> simp

@[simp] theorem State.judgeLease_pins (s : State) (p : Port) (d : LeaseDomain) (n : Int) (u : Purpose) : (s.judgeLease p d n u).pins = s.pins := by
  simp only [State.judgeLease]
  (repeat' split) <;> simp

@[simp] theorem State.judgeLease_pending (s : State) (p : Port) (d : LeaseDomain) (n : Int) (u : Purpose) : (s.judgeLease p d n u).pending = s.pending := by
  simp only [State.judgeLease]
  (repeat' split) <;> simp

@[simp] theorem State.judgeLease_restartsDue (s : State) (p : Port) (d : LeaseDomain) (n : Int) (u : Purpose) : (s.judgeLease p d n u).restartsDue = s.restartsDue := by
  simp only [State.judgeLease]
  (repeat' split) <;> simp

@[simp] theorem State.judgeLease_draws (s : State) (p : Port) (d : LeaseDomain) (n : Int) (u : Purpose) : (s.judgeLease p d n u).draws = s.draws := by
  simp only [State.judgeLease]
  (repeat' split) <;> simp

@[simp] theorem State.tellCleared_tb (s : State) (d : Domain) : (s.tellCleared d).tb = s.tb := by
  simp only [State.tellCleared]
  split <;> simp

@[simp] theorem State.tellCleared_settings (s : State) (d : Domain) : (s.tellCleared d).settings = s.settings := by
  simp only [State.tellCleared]
  split <;> simp

@[simp] theorem State.tellCleared_pins (s : State) (d : Domain) : (s.tellCleared d).pins = s.pins := by
  simp only [State.tellCleared]
  split <;> simp

@[simp] theorem State.tellCleared_pending (s : State) (d : Domain) : (s.tellCleared d).pending = s.pending := by
  simp only [State.tellCleared]
  split <;> simp

@[simp] theorem State.tellCleared_restartsDue (s : State) (d : Domain) : (s.tellCleared d).restartsDue = s.restartsDue := by
  simp only [State.tellCleared]
  split <;> simp

@[simp] theorem State.tellCleared_draws (s : State) (d : Domain) : (s.tellCleared d).draws = s.draws := by
  simp only [State.tellCleared]
  split <;> simp

@[simp] theorem State.clearDomain_tb (s : State) (d : Domain) : (s.clearDomain d).tb = s.tb := by
  simp [State.clearDomain]

@[simp] theorem State.clearDomain_settings (s : State) (d : Domain) : (s.clearDomain d).settings = s.settings := by
  simp [State.clearDomain]

@[simp] theorem State.clearDomain_pins (s : State) (d : Domain) : (s.clearDomain d).pins = s.pins := by
  simp [State.clearDomain]

@[simp] theorem State.clearDomain_pending (s : State) (d : Domain) : (s.clearDomain d).pending = s.pending := by
  simp [State.clearDomain]

@[simp] theorem State.clearDomain_restartsDue (s : State) (d : Domain) : (s.clearDomain d).restartsDue = s.restartsDue := by
  simp [State.clearDomain]

@[simp] theorem State.clearDomain_draws (s : State) (d : Domain) : (s.clearDomain d).draws = s.draws := by
  simp [State.clearDomain]

@[simp] theorem State.restartLeases_tb (s : State) : (s.restartLeases).tb = s.tb := by
  simp [State.restartLeases]

@[simp] theorem State.restartLeases_thermal (s : State) : (s.restartLeases).thermal = s.thermal := by
  simp [State.restartLeases]

@[simp] theorem State.restartLeases_settings (s : State) : (s.restartLeases).settings = s.settings := by
  simp [State.restartLeases]

@[simp] theorem State.restartLeases_pins (s : State) : (s.restartLeases).pins = s.pins := by
  simp [State.restartLeases]

@[simp] theorem State.restartLeases_pending (s : State) : (s.restartLeases).pending = s.pending := by
  simp [State.restartLeases]

@[simp] theorem State.restartLeases_restartsDue (s : State) : (s.restartLeases).restartsDue = s.restartsDue := by
  simp [State.restartLeases]

@[simp] theorem State.restartLeases_draws (s : State) : (s.restartLeases).draws = s.draws := by
  simp [State.restartLeases]

end Sys2Proof.Machine
end

