-- ==== Sys2Proof/Laws/FrameTimebase.lean ====
section
/-! SUPPORT. Which parts of the state the operations of the Timebase, the settings and the ports leave as they are: one
lemma for each operation and each part of the state, so that no proof unfolds an operation to learn what it does not touch. -/

namespace Sys2Proof.Machine

set_option Elab.async false

open Sys2Proof

@[simp] theorem State.elapse_trig (s : State) (k : Nat) : (s.elapse k).trig = s.trig := by
  rfl

@[simp] theorem State.elapse_thermal (s : State) (k : Nat) : (s.elapse k).thermal = s.thermal := by
  rfl

@[simp] theorem State.elapse_energy (s : State) (k : Nat) : (s.elapse k).energy = s.energy := by
  rfl

@[simp] theorem State.elapse_settings (s : State) (k : Nat) : (s.elapse k).settings = s.settings := by
  rfl

@[simp] theorem State.elapse_pins (s : State) (k : Nat) : (s.elapse k).pins = s.pins := by
  rfl

@[simp] theorem State.elapse_pending (s : State) (k : Nat) : (s.elapse k).pending = s.pending := by
  rfl

@[simp] theorem State.elapse_front (s : State) (k : Nat) : (s.elapse k).front = s.front := by
  rfl

@[simp] theorem State.elapse_store (s : State) (k : Nat) : (s.elapse k).store = s.store := by
  rfl

@[simp] theorem State.elapse_alerts (s : State) (k : Nat) : (s.elapse k).alerts = s.alerts := by
  rfl

@[simp] theorem State.elapse_cat (s : State) (k : Nat) : (s.elapse k).cat = s.cat := by
  rfl

@[simp] theorem State.elapse_restartsDue (s : State) (k : Nat) : (s.elapse k).restartsDue = s.restartsDue := by
  rfl

@[simp] theorem State.elapse_draws (s : State) (k : Nat) : (s.elapse k).draws = s.draws := by
  rfl

@[simp] theorem State.closeSecond_trig (s : State) : (s.closeSecond).trig = s.trig := by
  simp [State.closeSecond]

@[simp] theorem State.closeSecond_thermal (s : State) : (s.closeSecond).thermal = s.thermal := by
  simp [State.closeSecond]

@[simp] theorem State.closeSecond_energy (s : State) : (s.closeSecond).energy = s.energy := by
  simp [State.closeSecond]

@[simp] theorem State.closeSecond_settings (s : State) : (s.closeSecond).settings = s.settings := by
  simp [State.closeSecond]

@[simp] theorem State.closeSecond_pins (s : State) : (s.closeSecond).pins = s.pins := by
  simp [State.closeSecond]

@[simp] theorem State.closeSecond_pending (s : State) : (s.closeSecond).pending = s.pending := by
  simp [State.closeSecond]

@[simp] theorem State.closeSecond_front (s : State) : (s.closeSecond).front = s.front := by
  simp [State.closeSecond]

@[simp] theorem State.closeSecond_store (s : State) : (s.closeSecond).store = s.store := by
  simp [State.closeSecond]

@[simp] theorem State.closeSecond_restartsDue (s : State) : (s.closeSecond).restartsDue = s.restartsDue := by
  simp [State.closeSecond]

@[simp] theorem State.closeSecond_draws (s : State) : (s.closeSecond).draws = s.draws := by
  simp [State.closeSecond]

@[simp] theorem State.takeDue_settings (s : State) (d : Due) : (s.takeDue d).settings = s.settings := by
  simp only [State.takeDue]
  split <;> simp

@[simp] theorem State.takeDue_pins (s : State) (d : Due) : (s.takeDue d).pins = s.pins := by
  simp only [State.takeDue]
  split <;> simp

@[simp] theorem State.takeDue_pending (s : State) (d : Due) : (s.takeDue d).pending = s.pending := by
  simp only [State.takeDue]
  split <;> simp

@[simp] theorem State.takeDue_restartsDue (s : State) (d : Due) : (s.takeDue d).restartsDue = s.restartsDue := by
  simp only [State.takeDue]
  split <;> simp

@[simp] theorem State.takeDue_draws (s : State) (d : Due) : (s.takeDue d).draws = s.draws := by
  simp only [State.takeDue]
  split <;> simp

@[simp] theorem State.takeDues_settings (s : State) (l : List Due) : (s.takeDues l).settings = s.settings := by
  induction l generalizing s with
  | nil => rfl
  | cons _ _ ih => simp [State.takeDues, ih]

@[simp] theorem State.takeDues_pins (s : State) (l : List Due) : (s.takeDues l).pins = s.pins := by
  induction l generalizing s with
  | nil => rfl
  | cons _ _ ih => simp [State.takeDues, ih]

@[simp] theorem State.takeDues_pending (s : State) (l : List Due) : (s.takeDues l).pending = s.pending := by
  induction l generalizing s with
  | nil => rfl
  | cons _ _ ih => simp [State.takeDues, ih]

@[simp] theorem State.takeDues_restartsDue (s : State) (l : List Due) : (s.takeDues l).restartsDue = s.restartsDue := by
  induction l generalizing s with
  | nil => rfl
  | cons _ _ ih => simp [State.takeDues, ih]

@[simp] theorem State.takeDues_draws (s : State) (l : List Due) : (s.takeDues l).draws = s.draws := by
  induction l generalizing s with
  | nil => rfl
  | cons _ _ ih => simp [State.takeDues, ih]

@[simp] theorem State.finishSecond_settings (s : State) (e : Ending) : (s.finishSecond e).settings = s.settings := by
  simp [State.finishSecond]

@[simp] theorem State.finishSecond_pins (s : State) (e : Ending) : (s.finishSecond e).pins = s.pins := by
  simp [State.finishSecond]

@[simp] theorem State.finishSecond_pending (s : State) (e : Ending) : (s.finishSecond e).pending = s.pending := by
  simp [State.finishSecond]

@[simp] theorem State.finishSecond_restartsDue (s : State) (e : Ending) : (s.finishSecond e).restartsDue = s.restartsDue := by
  simp [State.finishSecond]

@[simp] theorem State.finishSecond_draws (s : State) (e : Ending) : (s.finishSecond e).draws = s.draws := by
  simp [State.finishSecond]

@[simp] theorem State.rollover_settings (s : State) (e : Ending) : (s.rollover e).settings = s.settings := by
  simp [State.rollover]

@[simp] theorem State.rollover_pins (s : State) (e : Ending) : (s.rollover e).pins = s.pins := by
  simp [State.rollover]

@[simp] theorem State.rollover_pending (s : State) (e : Ending) : (s.rollover e).pending = s.pending := by
  simp [State.rollover]

@[simp] theorem State.rollover_restartsDue (s : State) (e : Ending) : (s.rollover e).restartsDue = s.restartsDue := by
  simp [State.rollover]

@[simp] theorem State.rollover_draws (s : State) (e : Ending) : (s.rollover e).draws = s.draws := by
  simp [State.rollover]

@[simp] theorem State.stepEffects_trig (s : State) (a : Int) : (s.stepEffects a).trig = s.trig := by
  simp only [State.stepEffects]
  split <;> simp

@[simp] theorem State.stepEffects_thermal (s : State) (a : Int) : (s.stepEffects a).thermal = s.thermal := by
  simp only [State.stepEffects]
  split <;> simp

@[simp] theorem State.stepEffects_energy (s : State) (a : Int) : (s.stepEffects a).energy = s.energy := by
  simp only [State.stepEffects]
  split <;> simp

@[simp] theorem State.stepEffects_settings (s : State) (a : Int) : (s.stepEffects a).settings = s.settings := by
  simp only [State.stepEffects]
  split <;> simp

@[simp] theorem State.stepEffects_pins (s : State) (a : Int) : (s.stepEffects a).pins = s.pins := by
  simp only [State.stepEffects]
  split <;> simp

@[simp] theorem State.stepEffects_pending (s : State) (a : Int) : (s.stepEffects a).pending = s.pending := by
  simp only [State.stepEffects]
  split <;> simp

@[simp] theorem State.stepEffects_front (s : State) (a : Int) : (s.stepEffects a).front = s.front := by
  simp only [State.stepEffects]
  split <;> simp

@[simp] theorem State.stepEffects_store (s : State) (a : Int) : (s.stepEffects a).store = s.store := by
  simp only [State.stepEffects]
  split <;> simp

@[simp] theorem State.stepEffects_restartsDue (s : State) (a : Int) : (s.stepEffects a).restartsDue = s.restartsDue := by
  simp only [State.stepEffects]
  split <;> simp

@[simp] theorem State.stepEffects_draws (s : State) (a : Int) : (s.stepEffects a).draws = s.draws := by
  simp only [State.stepEffects]
  split <;> simp

@[simp] theorem State.setTime_trig (s : State) (m n : Nat) : (s.setTime m n).trig = s.trig := by
  simp only [State.setTime]
  split <;> simp

@[simp] theorem State.setTime_thermal (s : State) (m n : Nat) : (s.setTime m n).thermal = s.thermal := by
  simp only [State.setTime]
  split <;> simp

@[simp] theorem State.setTime_energy (s : State) (m n : Nat) : (s.setTime m n).energy = s.energy := by
  simp only [State.setTime]
  split <;> simp

@[simp] theorem State.setTime_settings (s : State) (m n : Nat) : (s.setTime m n).settings = s.settings := by
  simp only [State.setTime]
  split <;> simp

@[simp] theorem State.setTime_pins (s : State) (m n : Nat) : (s.setTime m n).pins = s.pins := by
  simp only [State.setTime]
  split <;> simp

@[simp] theorem State.setTime_pending (s : State) (m n : Nat) : (s.setTime m n).pending = s.pending := by
  simp only [State.setTime]
  split <;> simp

@[simp] theorem State.setTime_store (s : State) (m n : Nat) : (s.setTime m n).store = s.store := by
  simp only [State.setTime]
  split <;> simp

@[simp] theorem State.setTime_restartsDue (s : State) (m n : Nat) : (s.setTime m n).restartsDue = s.restartsDue := by
  simp only [State.setTime]
  split <;> simp

@[simp] theorem State.setTime_draws (s : State) (m n : Nat) : (s.setTime m n).draws = s.draws := by
  simp only [State.setTime]
  split <;> simp

@[simp] theorem State.timeMessage_trig (s : State) (l : List Byte) (f : Bool) : (s.timeMessage l f).trig = s.trig := by
  simp only [State.timeMessage]
  (repeat' split) <;> simp

@[simp] theorem State.timeMessage_thermal (s : State) (l : List Byte) (f : Bool) : (s.timeMessage l f).thermal = s.thermal := by
  simp only [State.timeMessage]
  (repeat' split) <;> simp

@[simp] theorem State.timeMessage_energy (s : State) (l : List Byte) (f : Bool) : (s.timeMessage l f).energy = s.energy := by
  simp only [State.timeMessage]
  (repeat' split) <;> simp

@[simp] theorem State.timeMessage_settings (s : State) (l : List Byte) (f : Bool) : (s.timeMessage l f).settings = s.settings := by
  simp only [State.timeMessage]
  (repeat' split) <;> simp

@[simp] theorem State.timeMessage_pins (s : State) (l : List Byte) (f : Bool) : (s.timeMessage l f).pins = s.pins := by
  simp only [State.timeMessage]
  (repeat' split) <;> simp

@[simp] theorem State.timeMessage_pending (s : State) (l : List Byte) (f : Bool) : (s.timeMessage l f).pending = s.pending := by
  simp only [State.timeMessage]
  (repeat' split) <;> simp

@[simp] theorem State.timeMessage_front (s : State) (l : List Byte) (f : Bool) : (s.timeMessage l f).front = s.front := by
  simp only [State.timeMessage]
  (repeat' split) <;> simp

@[simp] theorem State.timeMessage_store (s : State) (l : List Byte) (f : Bool) : (s.timeMessage l f).store = s.store := by
  simp only [State.timeMessage]
  (repeat' split) <;> simp

@[simp] theorem State.timeMessage_alerts (s : State) (l : List Byte) (f : Bool) : (s.timeMessage l f).alerts = s.alerts := by
  simp only [State.timeMessage]
  (repeat' split) <;> simp

@[simp] theorem State.timeMessage_cat (s : State) (l : List Byte) (f : Bool) : (s.timeMessage l f).cat = s.cat := by
  simp only [State.timeMessage]
  (repeat' split) <;> simp

@[simp] theorem State.timeMessage_restartsDue (s : State) (l : List Byte) (f : Bool) : (s.timeMessage l f).restartsDue = s.restartsDue := by
  simp only [State.timeMessage]
  (repeat' split) <;> simp

@[simp] theorem State.timeMessage_draws (s : State) (l : List Byte) (f : Bool) : (s.timeMessage l f).draws = s.draws := by
  simp only [State.timeMessage]
  (repeat' split) <;> simp

@[simp] theorem State.afterPps_trig (s : State) : (s.afterPps).trig = s.trig := by
  rfl

@[simp] theorem State.afterPps_thermal (s : State) : (s.afterPps).thermal = s.thermal := by
  rfl

@[simp] theorem State.afterPps_energy (s : State) : (s.afterPps).energy = s.energy := by
  rfl

@[simp] theorem State.afterPps_settings (s : State) : (s.afterPps).settings = s.settings := by
  rfl

@[simp] theorem State.afterPps_pins (s : State) : (s.afterPps).pins = s.pins := by
  rfl

@[simp] theorem State.afterPps_pending (s : State) : (s.afterPps).pending = s.pending := by
  rfl

@[simp] theorem State.afterPps_front (s : State) : (s.afterPps).front = s.front := by
  rfl

@[simp] theorem State.afterPps_store (s : State) : (s.afterPps).store = s.store := by
  rfl

@[simp] theorem State.afterPps_alerts (s : State) : (s.afterPps).alerts = s.alerts := by
  rfl

@[simp] theorem State.afterPps_cat (s : State) : (s.afterPps).cat = s.cat := by
  rfl

@[simp] theorem State.afterPps_restartsDue (s : State) : (s.afterPps).restartsDue = s.restartsDue := by
  rfl

@[simp] theorem State.afterPps_draws (s : State) : (s.afterPps).draws = s.draws := by
  rfl

@[simp] theorem State.lock_trig (s : State) (e : Int) (b : Bool) : (s.lock e b).trig = s.trig := by
  simp [State.lock]

@[simp] theorem State.lock_thermal (s : State) (e : Int) (b : Bool) : (s.lock e b).thermal = s.thermal := by
  simp [State.lock]

@[simp] theorem State.lock_energy (s : State) (e : Int) (b : Bool) : (s.lock e b).energy = s.energy := by
  simp [State.lock]

@[simp] theorem State.lock_settings (s : State) (e : Int) (b : Bool) : (s.lock e b).settings = s.settings := by
  simp [State.lock]

@[simp] theorem State.lock_pins (s : State) (e : Int) (b : Bool) : (s.lock e b).pins = s.pins := by
  simp [State.lock]

@[simp] theorem State.lock_pending (s : State) (e : Int) (b : Bool) : (s.lock e b).pending = s.pending := by
  simp [State.lock]

@[simp] theorem State.lock_front (s : State) (e : Int) (b : Bool) : (s.lock e b).front = s.front := by
  simp [State.lock]

@[simp] theorem State.lock_store (s : State) (e : Int) (b : Bool) : (s.lock e b).store = s.store := by
  simp [State.lock]

@[simp] theorem State.lock_restartsDue (s : State) (e : Int) (b : Bool) : (s.lock e b).restartsDue = s.restartsDue := by
  simp [State.lock]

@[simp] theorem State.lock_draws (s : State) (e : Int) (b : Bool) : (s.lock e b).draws = s.draws := by
  simp [State.lock]

@[simp] theorem State.lockingPair_settings (s : State) (m : Message) (e : Ending) : (s.lockingPair m e).settings = s.settings := by
  simp only [State.lockingPair]
  split <;> simp

@[simp] theorem State.lockingPair_pins (s : State) (m : Message) (e : Ending) : (s.lockingPair m e).pins = s.pins := by
  simp only [State.lockingPair]
  split <;> simp

@[simp] theorem State.lockingPair_pending (s : State) (m : Message) (e : Ending) : (s.lockingPair m e).pending = s.pending := by
  simp only [State.lockingPair]
  split <;> simp

@[simp] theorem State.lockingPair_restartsDue (s : State) (m : Message) (e : Ending) : (s.lockingPair m e).restartsDue = s.restartsDue := by
  simp only [State.lockingPair]
  split <;> simp

@[simp] theorem State.lockingPair_draws (s : State) (m : Message) (e : Ending) : (s.lockingPair m e).draws = s.draws := by
  simp only [State.lockingPair]
  split <;> simp

@[simp] theorem State.seekingPair_settings (s : State) (e : Ending) (m : Option Message) : (s.seekingPair e m).settings = s.settings := by
  simp only [State.seekingPair]
  (repeat' split) <;> simp

@[simp] theorem State.seekingPair_pins (s : State) (e : Ending) (m : Option Message) : (s.seekingPair e m).pins = s.pins := by
  simp only [State.seekingPair]
  (repeat' split) <;> simp

@[simp] theorem State.seekingPair_pending (s : State) (e : Ending) (m : Option Message) : (s.seekingPair e m).pending = s.pending := by
  simp only [State.seekingPair]
  (repeat' split) <;> simp

@[simp] theorem State.seekingPair_restartsDue (s : State) (e : Ending) (m : Option Message) : (s.seekingPair e m).restartsDue = s.restartsDue := by
  simp only [State.seekingPair]
  (repeat' split) <;> simp

@[simp] theorem State.seekingPair_draws (s : State) (e : Ending) (m : Option Message) : (s.seekingPair e m).draws = s.draws := by
  simp only [State.seekingPair]
  (repeat' split) <;> simp

@[simp] theorem State.windowPair_trig (s : State) (e : Int) : (s.windowPair e).trig = s.trig := by
  simp only [State.windowPair]
  (repeat' split) <;> simp

@[simp] theorem State.windowPair_thermal (s : State) (e : Int) : (s.windowPair e).thermal = s.thermal := by
  simp only [State.windowPair]
  (repeat' split) <;> simp

@[simp] theorem State.windowPair_energy (s : State) (e : Int) : (s.windowPair e).energy = s.energy := by
  simp only [State.windowPair]
  (repeat' split) <;> simp

@[simp] theorem State.windowPair_settings (s : State) (e : Int) : (s.windowPair e).settings = s.settings := by
  simp only [State.windowPair]
  (repeat' split) <;> simp

@[simp] theorem State.windowPair_pins (s : State) (e : Int) : (s.windowPair e).pins = s.pins := by
  simp only [State.windowPair]
  (repeat' split) <;> simp

@[simp] theorem State.windowPair_pending (s : State) (e : Int) : (s.windowPair e).pending = s.pending := by
  simp only [State.windowPair]
  (repeat' split) <;> simp

@[simp] theorem State.windowPair_front (s : State) (e : Int) : (s.windowPair e).front = s.front := by
  simp only [State.windowPair]
  (repeat' split) <;> simp

@[simp] theorem State.windowPair_store (s : State) (e : Int) : (s.windowPair e).store = s.store := by
  simp only [State.windowPair]
  (repeat' split) <;> simp

@[simp] theorem State.windowPair_alerts (s : State) (e : Int) : (s.windowPair e).alerts = s.alerts := by
  simp only [State.windowPair]
  (repeat' split) <;> simp

@[simp] theorem State.windowPair_cat (s : State) (e : Int) : (s.windowPair e).cat = s.cat := by
  simp only [State.windowPair]
  (repeat' split) <;> simp

@[simp] theorem State.windowPair_restartsDue (s : State) (e : Int) : (s.windowPair e).restartsDue = s.restartsDue := by
  simp only [State.windowPair]
  (repeat' split) <;> simp

@[simp] theorem State.windowPair_draws (s : State) (e : Int) : (s.windowPair e).draws = s.draws := by
  simp only [State.windowPair]
  (repeat' split) <;> simp

@[simp] theorem State.settled_thermal (s : State) : (s.settled).thermal = s.thermal := by
  simp only [State.settled]
  (repeat' split) <;> simp

@[simp] theorem State.settled_settings (s : State) : (s.settled).settings = s.settings := by
  simp only [State.settled]
  (repeat' split) <;> simp

@[simp] theorem State.settled_pins (s : State) : (s.settled).pins = s.pins := by
  simp only [State.settled]
  (repeat' split) <;> simp

@[simp] theorem State.settled_pending (s : State) : (s.settled).pending = s.pending := by
  simp only [State.settled]
  (repeat' split) <;> simp

@[simp] theorem State.settled_restartsDue (s : State) : (s.settled).restartsDue = s.restartsDue := by
  simp only [State.settled]
  (repeat' split) <;> simp

@[simp] theorem State.settled_draws (s : State) : (s.settled).draws = s.draws := by
  simp only [State.settled]
  (repeat' split) <;> simp

@[simp] theorem State.trackedPair_thermal (s : State) (e : Int) : (s.trackedPair e).thermal = s.thermal := by
  simp [State.trackedPair]

@[simp] theorem State.trackedPair_settings (s : State) (e : Int) : (s.trackedPair e).settings = s.settings := by
  simp [State.trackedPair]

@[simp] theorem State.trackedPair_pins (s : State) (e : Int) : (s.trackedPair e).pins = s.pins := by
  simp [State.trackedPair]

@[simp] theorem State.trackedPair_pending (s : State) (e : Int) : (s.trackedPair e).pending = s.pending := by
  simp [State.trackedPair]

@[simp] theorem State.trackedPair_restartsDue (s : State) (e : Int) : (s.trackedPair e).restartsDue = s.restartsDue := by
  simp [State.trackedPair]

@[simp] theorem State.trackedPair_draws (s : State) (e : Int) : (s.trackedPair e).draws = s.draws := by
  simp [State.trackedPair]

@[simp] theorem State.outlierPair_settings (s : State) (m : Message) (e : Ending) : (s.outlierPair m e).settings = s.settings := by
  simp only [State.outlierPair]
  split <;> simp

@[simp] theorem State.outlierPair_pins (s : State) (m : Message) (e : Ending) : (s.outlierPair m e).pins = s.pins := by
  simp only [State.outlierPair]
  split <;> simp

@[simp] theorem State.outlierPair_pending (s : State) (m : Message) (e : Ending) : (s.outlierPair m e).pending = s.pending := by
  simp only [State.outlierPair]
  split <;> simp

@[simp] theorem State.outlierPair_restartsDue (s : State) (m : Message) (e : Ending) : (s.outlierPair m e).restartsDue = s.restartsDue := by
  simp only [State.outlierPair]
  split <;> simp

@[simp] theorem State.outlierPair_draws (s : State) (m : Message) (e : Ending) : (s.outlierPair m e).draws = s.draws := by
  simp only [State.outlierPair]
  split <;> simp

@[simp] theorem State.missingPair_trig (s : State) : (s.missingPair).trig = s.trig := by
  simp only [State.missingPair]
  split <;> simp

@[simp] theorem State.missingPair_thermal (s : State) : (s.missingPair).thermal = s.thermal := by
  simp only [State.missingPair]
  split <;> simp

@[simp] theorem State.missingPair_energy (s : State) : (s.missingPair).energy = s.energy := by
  simp only [State.missingPair]
  split <;> simp

@[simp] theorem State.missingPair_settings (s : State) : (s.missingPair).settings = s.settings := by
  simp only [State.missingPair]
  split <;> simp

@[simp] theorem State.missingPair_pins (s : State) : (s.missingPair).pins = s.pins := by
  simp only [State.missingPair]
  split <;> simp

@[simp] theorem State.missingPair_pending (s : State) : (s.missingPair).pending = s.pending := by
  simp only [State.missingPair]
  split <;> simp

@[simp] theorem State.missingPair_front (s : State) : (s.missingPair).front = s.front := by
  simp only [State.missingPair]
  split <;> simp

@[simp] theorem State.missingPair_store (s : State) : (s.missingPair).store = s.store := by
  simp only [State.missingPair]
  split <;> simp

@[simp] theorem State.missingPair_restartsDue (s : State) : (s.missingPair).restartsDue = s.restartsDue := by
  simp only [State.missingPair]
  split <;> simp

@[simp] theorem State.missingPair_draws (s : State) : (s.missingPair).draws = s.draws := by
  simp only [State.missingPair]
  split <;> simp

@[simp] theorem State.trackingPair_settings (s : State) (e : Ending) (m : Option Message) : (s.trackingPair e m).settings = s.settings := by
  simp only [State.trackingPair]
  (repeat' split) <;> simp

@[simp] theorem State.trackingPair_pins (s : State) (e : Ending) (m : Option Message) : (s.trackingPair e m).pins = s.pins := by
  simp only [State.trackingPair]
  (repeat' split) <;> simp

@[simp] theorem State.trackingPair_pending (s : State) (e : Ending) (m : Option Message) : (s.trackingPair e m).pending = s.pending := by
  simp only [State.trackingPair]
  (repeat' split) <;> simp

@[simp] theorem State.trackingPair_restartsDue (s : State) (e : Ending) (m : Option Message) : (s.trackingPair e m).restartsDue = s.restartsDue := by
  simp only [State.trackingPair]
  (repeat' split) <;> simp

@[simp] theorem State.trackingPair_draws (s : State) (e : Ending) (m : Option Message) : (s.trackingPair e m).draws = s.draws := by
  simp only [State.trackingPair]
  (repeat' split) <;> simp

@[simp] theorem State.takePps_settings (s : State) (e : Ending) : (s.takePps e).settings = s.settings := by
  simp only [State.takePps]
  split <;> simp

@[simp] theorem State.takePps_pins (s : State) (e : Ending) : (s.takePps e).pins = s.pins := by
  simp only [State.takePps]
  split <;> simp

@[simp] theorem State.takePps_pending (s : State) (e : Ending) : (s.takePps e).pending = s.pending := by
  simp only [State.takePps]
  split <;> simp

@[simp] theorem State.takePps_restartsDue (s : State) (e : Ending) : (s.takePps e).restartsDue = s.restartsDue := by
  simp only [State.takePps]
  split <;> simp

@[simp] theorem State.takePps_draws (s : State) (e : Ending) : (s.takePps e).draws = s.draws := by
  simp only [State.takePps]
  split <;> simp

@[simp] theorem State.setByCommand_settings (s : State) (a b c : Nat) (e : Ending) : (s.setByCommand a b c e).settings = s.settings := by
  simp [State.setByCommand]

@[simp] theorem State.setByCommand_pins (s : State) (a b c : Nat) (e : Ending) : (s.setByCommand a b c e).pins = s.pins := by
  simp [State.setByCommand]

@[simp] theorem State.setByCommand_pending (s : State) (a b c : Nat) (e : Ending) : (s.setByCommand a b c e).pending = s.pending := by
  simp [State.setByCommand]

@[simp] theorem State.setByCommand_restartsDue (s : State) (a b c : Nat) (e : Ending) : (s.setByCommand a b c e).restartsDue = s.restartsDue := by
  simp [State.setByCommand]

@[simp] theorem State.setByCommand_draws (s : State) (a b c : Nat) (e : Ending) : (s.setByCommand a b c e).draws = s.draws := by
  simp [State.setByCommand]

@[simp] theorem State.restartTimebase_thermal (s : State) : (s.restartTimebase).thermal = s.thermal := by
  simp [State.restartTimebase]

@[simp] theorem State.restartTimebase_settings (s : State) : (s.restartTimebase).settings = s.settings := by
  simp [State.restartTimebase]

@[simp] theorem State.restartTimebase_pins (s : State) : (s.restartTimebase).pins = s.pins := by
  simp [State.restartTimebase]

@[simp] theorem State.restartTimebase_pending (s : State) : (s.restartTimebase).pending = s.pending := by
  simp [State.restartTimebase]

@[simp] theorem State.restartTimebase_restartsDue (s : State) : (s.restartTimebase).restartsDue = s.restartsDue := by
  simp [State.restartTimebase]

@[simp] theorem State.restartTimebase_draws (s : State) : (s.restartTimebase).draws = s.draws := by
  simp [State.restartTimebase]

@[simp] theorem State.applySpeed_tb (s : State) (p : Port) : (s.applySpeed p).tb = s.tb := by
  simp only [State.applySpeed]
  split <;> simp

@[simp] theorem State.applySpeed_trig (s : State) (p : Port) : (s.applySpeed p).trig = s.trig := by
  simp only [State.applySpeed]
  split <;> simp

@[simp] theorem State.applySpeed_thermal (s : State) (p : Port) : (s.applySpeed p).thermal = s.thermal := by
  simp only [State.applySpeed]
  split <;> simp

@[simp] theorem State.applySpeed_energy (s : State) (p : Port) : (s.applySpeed p).energy = s.energy := by
  simp only [State.applySpeed]
  split <;> simp

@[simp] theorem State.applySpeed_settings (s : State) (p : Port) : (s.applySpeed p).settings = s.settings := by
  simp only [State.applySpeed]
  split <;> simp

@[simp] theorem State.applySpeed_pins (s : State) (p : Port) : (s.applySpeed p).pins = s.pins := by
  simp only [State.applySpeed]
  split <;> simp

@[simp] theorem State.applySpeed_pending (s : State) (p : Port) : (s.applySpeed p).pending = s.pending := by
  simp only [State.applySpeed]
  split <;> simp

@[simp] theorem State.applySpeed_front (s : State) (p : Port) : (s.applySpeed p).front = s.front := by
  simp only [State.applySpeed]
  split <;> simp

@[simp] theorem State.applySpeed_store (s : State) (p : Port) : (s.applySpeed p).store = s.store := by
  simp only [State.applySpeed]
  split <;> simp

@[simp] theorem State.applySpeed_alerts (s : State) (p : Port) : (s.applySpeed p).alerts = s.alerts := by
  simp only [State.applySpeed]
  split <;> simp

@[simp] theorem State.applySpeed_cat (s : State) (p : Port) : (s.applySpeed p).cat = s.cat := by
  simp only [State.applySpeed]
  split <;> simp

@[simp] theorem State.applySpeed_restartsDue (s : State) (p : Port) : (s.applySpeed p).restartsDue = s.restartsDue := by
  simp only [State.applySpeed]
  split <;> simp

@[simp] theorem State.applySpeed_draws (s : State) (p : Port) : (s.applySpeed p).draws = s.draws := by
  simp only [State.applySpeed]
  split <;> simp

@[simp] theorem State.capacityWritten_tb (s : State) (t : Table) : (s.capacityWritten t).tb = s.tb := by
  rfl

@[simp] theorem State.capacityWritten_trig (s : State) (t : Table) : (s.capacityWritten t).trig = s.trig := by
  rfl

@[simp] theorem State.capacityWritten_thermal (s : State) (t : Table) : (s.capacityWritten t).thermal = s.thermal := by
  rfl

@[simp] theorem State.capacityWritten_settings (s : State) (t : Table) : (s.capacityWritten t).settings = s.settings := by
  rfl

@[simp] theorem State.capacityWritten_pins (s : State) (t : Table) : (s.capacityWritten t).pins = s.pins := by
  rfl

@[simp] theorem State.capacityWritten_pending (s : State) (t : Table) : (s.capacityWritten t).pending = s.pending := by
  rfl

@[simp] theorem State.capacityWritten_front (s : State) (t : Table) : (s.capacityWritten t).front = s.front := by
  rfl

@[simp] theorem State.capacityWritten_store (s : State) (t : Table) : (s.capacityWritten t).store = s.store := by
  rfl

@[simp] theorem State.capacityWritten_alerts (s : State) (t : Table) : (s.capacityWritten t).alerts = s.alerts := by
  rfl

@[simp] theorem State.capacityWritten_cat (s : State) (t : Table) : (s.capacityWritten t).cat = s.cat := by
  rfl

@[simp] theorem State.capacityWritten_restartsDue (s : State) (t : Table) : (s.capacityWritten t).restartsDue = s.restartsDue := by
  rfl

@[simp] theorem State.capacityWritten_draws (s : State) (t : Table) : (s.capacityWritten t).draws = s.draws := by
  rfl

@[simp] theorem State.settingEffects_thermal (s : State) (t : Table) (p : Param) : (s.settingEffects t p).thermal = s.thermal := by
  simp only [State.settingEffects]
  (repeat' split) <;> simp

@[simp] theorem State.settingEffects_settings (s : State) (t : Table) (p : Param) : (s.settingEffects t p).settings = s.settings := by
  simp only [State.settingEffects]
  (repeat' split) <;> simp

@[simp] theorem State.settingEffects_pins (s : State) (t : Table) (p : Param) : (s.settingEffects t p).pins = s.pins := by
  simp only [State.settingEffects]
  (repeat' split) <;> simp

@[simp] theorem State.settingEffects_pending (s : State) (t : Table) (p : Param) : (s.settingEffects t p).pending = s.pending := by
  simp only [State.settingEffects]
  (repeat' split) <;> simp

@[simp] theorem State.settingEffects_front (s : State) (t : Table) (p : Param) : (s.settingEffects t p).front = s.front := by
  simp only [State.settingEffects]
  (repeat' split) <;> simp

@[simp] theorem State.settingEffects_restartsDue (s : State) (t : Table) (p : Param) : (s.settingEffects t p).restartsDue = s.restartsDue := by
  simp only [State.settingEffects]
  (repeat' split) <;> simp

@[simp] theorem State.settingEffects_draws (s : State) (t : Table) (p : Param) : (s.settingEffects t p).draws = s.draws := by
  simp only [State.settingEffects]
  (repeat' split) <;> simp

@[simp] theorem State.setValue_thermal (s : State) (q : Port) (p : Param) (v : Int) : (s.setValue q p v).thermal = s.thermal := by
  simp [State.setValue]

@[simp] theorem State.setValue_pins (s : State) (q : Port) (p : Param) (v : Int) : (s.setValue q p v).pins = s.pins := by
  simp [State.setValue]

@[simp] theorem State.setValue_pending (s : State) (q : Port) (p : Param) (v : Int) : (s.setValue q p v).pending = s.pending := by
  simp [State.setValue]

@[simp] theorem State.setValue_front (s : State) (q : Port) (p : Param) (v : Int) : (s.setValue q p v).front = s.front := by
  simp [State.setValue]

@[simp] theorem State.setValue_restartsDue (s : State) (q : Port) (p : Param) (v : Int) : (s.setValue q p v).restartsDue = s.restartsDue := by
  simp [State.setValue]

@[simp] theorem State.setValue_draws (s : State) (q : Port) (p : Param) (v : Int) : (s.setValue q p v).draws = s.draws := by
  simp [State.setValue]

@[simp] theorem State.restartPort_tb (s : State) (p : Port) : (s.restartPort p).tb = s.tb := by
  rfl

@[simp] theorem State.restartPort_trig (s : State) (p : Port) : (s.restartPort p).trig = s.trig := by
  rfl

@[simp] theorem State.restartPort_thermal (s : State) (p : Port) : (s.restartPort p).thermal = s.thermal := by
  rfl

@[simp] theorem State.restartPort_energy (s : State) (p : Port) : (s.restartPort p).energy = s.energy := by
  rfl

@[simp] theorem State.restartPort_settings (s : State) (p : Port) : (s.restartPort p).settings = s.settings := by
  rfl

@[simp] theorem State.restartPort_pins (s : State) (p : Port) : (s.restartPort p).pins = s.pins := by
  rfl

@[simp] theorem State.restartPort_pending (s : State) (p : Port) : (s.restartPort p).pending = s.pending := by
  rfl

@[simp] theorem State.restartPort_front (s : State) (p : Port) : (s.restartPort p).front = s.front := by
  rfl

@[simp] theorem State.restartPort_store (s : State) (p : Port) : (s.restartPort p).store = s.store := by
  rfl

@[simp] theorem State.restartPort_alerts (s : State) (p : Port) : (s.restartPort p).alerts = s.alerts := by
  rfl

@[simp] theorem State.restartPort_cat (s : State) (p : Port) : (s.restartPort p).cat = s.cat := by
  rfl

@[simp] theorem State.restartPort_restartsDue (s : State) (p : Port) : (s.restartPort p).restartsDue = s.restartsDue := by
  rfl

@[simp] theorem State.restartPort_draws (s : State) (p : Port) : (s.restartPort p).draws = s.draws := by
  rfl

@[simp] theorem State.restartStore_tb (s : State) : (s.restartStore).tb = s.tb := by
  simp [State.restartStore]

@[simp] theorem State.restartStore_trig (s : State) : (s.restartStore).trig = s.trig := by
  simp [State.restartStore]

@[simp] theorem State.restartStore_thermal (s : State) : (s.restartStore).thermal = s.thermal := by
  simp [State.restartStore]

@[simp] theorem State.restartStore_energy (s : State) : (s.restartStore).energy = s.energy := by
  simp [State.restartStore]

@[simp] theorem State.restartStore_settings (s : State) : (s.restartStore).settings = s.settings := by
  simp [State.restartStore]

@[simp] theorem State.restartStore_pins (s : State) : (s.restartStore).pins = s.pins := by
  simp [State.restartStore]

@[simp] theorem State.restartStore_pending (s : State) : (s.restartStore).pending = s.pending := by
  simp [State.restartStore]

@[simp] theorem State.restartStore_front (s : State) : (s.restartStore).front = s.front := by
  simp [State.restartStore]

@[simp] theorem State.restartStore_restartsDue (s : State) : (s.restartStore).restartsDue = s.restartsDue := by
  simp [State.restartStore]

@[simp] theorem State.restartStore_draws (s : State) : (s.restartStore).draws = s.draws := by
  simp [State.restartStore]

@[simp] theorem State.warmRestart_settings (s : State) (k n : Nat) : (s.warmRestart k n).settings = s.settings := by
  simp [State.warmRestart]

@[simp] theorem State.warmRestart_pins (s : State) (k n : Nat) : (s.warmRestart k n).pins = s.pins := by
  simp [State.warmRestart]

@[simp] theorem State.warmRestart_pending (s : State) (k n : Nat) : (s.warmRestart k n).pending = s.pending := by
  simp [State.warmRestart]

@[simp] theorem State.warmRestart_restartsDue (s : State) (k n : Nat) : (s.warmRestart k n).restartsDue = s.restartsDue := by
  simp [State.warmRestart]

@[simp] theorem State.warmRestart_draws (s : State) (k n : Nat) : (s.warmRestart k n).draws = s.draws := by
  simp [State.warmRestart]

@[simp] theorem State.makeRestart_settings (s : State) : (s.makeRestart).settings = s.settings := by
  simp [State.makeRestart]

@[simp] theorem State.makeRestart_pins (s : State) : (s.makeRestart).pins = s.pins := by
  simp [State.makeRestart]

@[simp] theorem State.makeRestart_pending (s : State) : (s.makeRestart).pending = s.pending := by
  simp [State.makeRestart]

@[simp] theorem State.makeRestart_restartsDue (s : State) : (s.makeRestart).restartsDue = s.restartsDue := by
  simp [State.makeRestart]

@[simp] theorem State.resetInput_settings (s : State) (b : Bool) : (s.resetInput b).settings = s.settings := by
  simp only [State.resetInput]
  split <;> simp

@[simp] theorem State.resetInput_pending (s : State) (b : Bool) : (s.resetInput b).pending = s.pending := by
  simp only [State.resetInput]
  split <;> simp

@[simp] theorem State.resetInput_restartsDue (s : State) (b : Bool) : (s.resetInput b).restartsDue = s.restartsDue := by
  simp only [State.resetInput]
  split <;> simp

@[simp] theorem State.dueRestart_settings (s : State) : (s.dueRestart).settings = s.settings := by
  simp only [State.dueRestart]
  split <;> simp

@[simp] theorem State.dueRestart_pins (s : State) : (s.dueRestart).pins = s.pins := by
  simp only [State.dueRestart]
  split <;> simp

@[simp] theorem State.dueRestart_pending (s : State) : (s.dueRestart).pending = s.pending := by
  simp only [State.dueRestart]
  split <;> simp

@[simp] theorem State.discardLine_tb (s : State) (p : Port) : (s.discardLine p).tb = s.tb := by
  simp only [State.discardLine, State.takeLine]
  (repeat' split) <;> rfl

@[simp] theorem State.discardLine_trig (s : State) (p : Port) : (s.discardLine p).trig = s.trig := by
  simp only [State.discardLine, State.takeLine]
  (repeat' split) <;> rfl

@[simp] theorem State.discardLine_thermal (s : State) (p : Port) : (s.discardLine p).thermal = s.thermal := by
  simp only [State.discardLine, State.takeLine]
  (repeat' split) <;> rfl

@[simp] theorem State.discardLine_energy (s : State) (p : Port) : (s.discardLine p).energy = s.energy := by
  simp only [State.discardLine, State.takeLine]
  (repeat' split) <;> rfl

@[simp] theorem State.discardLine_settings (s : State) (p : Port) : (s.discardLine p).settings = s.settings := by
  simp only [State.discardLine, State.takeLine]
  (repeat' split) <;> rfl

@[simp] theorem State.discardLine_pins (s : State) (p : Port) : (s.discardLine p).pins = s.pins := by
  simp only [State.discardLine, State.takeLine]
  (repeat' split) <;> rfl

@[simp] theorem State.discardLine_pending (s : State) (p : Port) : (s.discardLine p).pending = s.pending := by
  simp only [State.discardLine, State.takeLine]
  (repeat' split) <;> rfl

@[simp] theorem State.discardLine_front (s : State) (p : Port) : (s.discardLine p).front = s.front := by
  simp only [State.discardLine, State.takeLine]
  (repeat' split) <;> rfl

@[simp] theorem State.discardLine_store (s : State) (p : Port) : (s.discardLine p).store = s.store := by
  simp only [State.discardLine, State.takeLine]
  (repeat' split) <;> rfl

@[simp] theorem State.discardLine_alerts (s : State) (p : Port) : (s.discardLine p).alerts = s.alerts := by
  simp only [State.discardLine, State.takeLine]
  (repeat' split) <;> rfl

@[simp] theorem State.discardLine_cat (s : State) (p : Port) : (s.discardLine p).cat = s.cat := by
  simp only [State.discardLine, State.takeLine]
  (repeat' split) <;> rfl

@[simp] theorem State.discardLine_restartsDue (s : State) (p : Port) : (s.discardLine p).restartsDue = s.restartsDue := by
  simp only [State.discardLine, State.takeLine]
  (repeat' split) <;> rfl

@[simp] theorem State.discardLine_draws (s : State) (p : Port) : (s.discardLine p).draws = s.draws := by
  simp only [State.discardLine, State.takeLine]
  (repeat' split) <;> rfl

@[simp] theorem State.responseSent_tb (s : State) (p : Port) : (s.responseSent p).tb = s.tb := by
  simp only [State.responseSent]
  split <;> simp

@[simp] theorem State.responseSent_trig (s : State) (p : Port) : (s.responseSent p).trig = s.trig := by
  simp only [State.responseSent]
  split <;> simp

@[simp] theorem State.responseSent_thermal (s : State) (p : Port) : (s.responseSent p).thermal = s.thermal := by
  simp only [State.responseSent]
  split <;> simp

@[simp] theorem State.responseSent_energy (s : State) (p : Port) : (s.responseSent p).energy = s.energy := by
  simp only [State.responseSent]
  split <;> simp

@[simp] theorem State.responseSent_settings (s : State) (p : Port) : (s.responseSent p).settings = s.settings := by
  simp only [State.responseSent]
  split <;> simp

@[simp] theorem State.responseSent_pins (s : State) (p : Port) : (s.responseSent p).pins = s.pins := by
  simp only [State.responseSent]
  split <;> simp

@[simp] theorem State.responseSent_pending (s : State) (p : Port) : (s.responseSent p).pending = s.pending := by
  simp only [State.responseSent]
  split <;> simp

@[simp] theorem State.responseSent_front (s : State) (p : Port) : (s.responseSent p).front = s.front := by
  simp only [State.responseSent]
  split <;> simp

@[simp] theorem State.responseSent_alerts (s : State) (p : Port) : (s.responseSent p).alerts = s.alerts := by
  simp only [State.responseSent]
  split <;> simp

@[simp] theorem State.responseSent_draws (s : State) (p : Port) : (s.responseSent p).draws = s.draws := by
  simp only [State.responseSent]
  split <;> simp

@[simp] theorem State.busyLineSent_tb (s : State) (p : Port) : (s.busyLineSent p).tb = s.tb := by
  simp only [State.busyLineSent]
  split <;> simp

@[simp] theorem State.busyLineSent_trig (s : State) (p : Port) : (s.busyLineSent p).trig = s.trig := by
  simp only [State.busyLineSent]
  split <;> simp

@[simp] theorem State.busyLineSent_thermal (s : State) (p : Port) : (s.busyLineSent p).thermal = s.thermal := by
  simp only [State.busyLineSent]
  split <;> simp

@[simp] theorem State.busyLineSent_energy (s : State) (p : Port) : (s.busyLineSent p).energy = s.energy := by
  simp only [State.busyLineSent]
  split <;> simp

@[simp] theorem State.busyLineSent_settings (s : State) (p : Port) : (s.busyLineSent p).settings = s.settings := by
  simp only [State.busyLineSent]
  split <;> simp

@[simp] theorem State.busyLineSent_pins (s : State) (p : Port) : (s.busyLineSent p).pins = s.pins := by
  simp only [State.busyLineSent]
  split <;> simp

@[simp] theorem State.busyLineSent_pending (s : State) (p : Port) : (s.busyLineSent p).pending = s.pending := by
  simp only [State.busyLineSent]
  split <;> simp

@[simp] theorem State.busyLineSent_front (s : State) (p : Port) : (s.busyLineSent p).front = s.front := by
  simp only [State.busyLineSent]
  split <;> simp

@[simp] theorem State.busyLineSent_store (s : State) (p : Port) : (s.busyLineSent p).store = s.store := by
  simp only [State.busyLineSent]
  split <;> simp

@[simp] theorem State.busyLineSent_alerts (s : State) (p : Port) : (s.busyLineSent p).alerts = s.alerts := by
  simp only [State.busyLineSent]
  split <;> simp

@[simp] theorem State.busyLineSent_cat (s : State) (p : Port) : (s.busyLineSent p).cat = s.cat := by
  simp only [State.busyLineSent]
  split <;> simp

@[simp] theorem State.busyLineSent_restartsDue (s : State) (p : Port) : (s.busyLineSent p).restartsDue = s.restartsDue := by
  simp only [State.busyLineSent]
  split <;> simp

@[simp] theorem State.busyLineSent_draws (s : State) (p : Port) : (s.busyLineSent p).draws = s.draws := by
  simp only [State.busyLineSent]
  split <;> simp

end Sys2Proof.Machine
end

