-- ==== Sys2Proof/Laws/State.lean ====
section
/-! SUPPORT. The small lemmas of the state: what stands in a table kept per port, component, channel, heater, domain or lease
after a write, and what each named update of the state writes. The frames of the updates stand in the Frame files. -/

namespace Sys2Proof.Machine

open Sys2Proof

/-! ### Tables kept per key -/

@[simp] theorem PerPort.get_set_self {α : Type} (t : PerPort α) (k : Port) (x : α) : (t.set k x).get k = x := by
  cases k <;> rfl

theorem PerPort.get_set {α : Type} (t : PerPort α) (k j : Port) (x : α) : (t.set k x).get j = if j = k then x else t.get j := by
  cases k <;> cases j <;> rfl

theorem PerPort.get_set_of_ne {α : Type} (t : PerPort α) {k j : Port} (x : α) (h : j ≠ k) : (t.set k x).get j = t.get j := by
  rw [PerPort.get_set, if_neg h]

@[simp] theorem PerPort.set_set {α : Type} (t : PerPort α) (k : Port) (x y : α) : (t.set k x).set k y = t.set k y := by
  cases k <;> rfl

@[simp] theorem PerPort.set_get {α : Type} (t : PerPort α) (k : Port) : t.set k (t.get k) = t := by
  cases k <;> rfl

/-- Two tables with the same entries are the same. -/
theorem PerPort.ext_get {α : Type} {t u : PerPort α} (h : ∀ k, t.get k = u.get k) : t = u := by
  cases t; cases u
  simp only [PerPort.mk.injEq]
  exact ⟨h .a, h .b⟩

@[simp] theorem PerChannel.get_set_self {α : Type} (t : PerChannel α) (k : Channel) (x : α) : (t.set k x).get k = x := by
  cases k <;> rfl

theorem PerChannel.get_set {α : Type} (t : PerChannel α) (k j : Channel) (x : α) : (t.set k x).get j = if j = k then x else t.get j := by
  cases k <;> cases j <;> rfl

theorem PerChannel.get_set_of_ne {α : Type} (t : PerChannel α) {k j : Channel} (x : α) (h : j ≠ k) : (t.set k x).get j = t.get j := by
  rw [PerChannel.get_set, if_neg h]

@[simp] theorem PerChannel.set_set {α : Type} (t : PerChannel α) (k : Channel) (x y : α) : (t.set k x).set k y = t.set k y := by
  cases k <;> rfl

@[simp] theorem PerChannel.set_get {α : Type} (t : PerChannel α) (k : Channel) : t.set k (t.get k) = t := by
  cases k <;> rfl

/-- Two tables with the same entries are the same. -/
theorem PerChannel.ext_get {α : Type} {t u : PerChannel α} (h : ∀ k, t.get k = u.get k) : t = u := by
  cases t; cases u
  simp only [PerChannel.mk.injEq]
  exact ⟨h .vault, h .osc, h .batt, h .sensor⟩

@[simp] theorem PerHeater.get_set_self {α : Type} (t : PerHeater α) (k : Heater) (x : α) : (t.set k x).get k = x := by
  cases k <;> rfl

theorem PerHeater.get_set {α : Type} (t : PerHeater α) (k j : Heater) (x : α) : (t.set k x).get j = if j = k then x else t.get j := by
  cases k <;> cases j <;> rfl

theorem PerHeater.get_set_of_ne {α : Type} (t : PerHeater α) {k j : Heater} (x : α) (h : j ≠ k) : (t.set k x).get j = t.get j := by
  rw [PerHeater.get_set, if_neg h]

@[simp] theorem PerHeater.set_set {α : Type} (t : PerHeater α) (k : Heater) (x y : α) : (t.set k x).set k y = t.set k y := by
  cases k <;> rfl

@[simp] theorem PerHeater.set_get {α : Type} (t : PerHeater α) (k : Heater) : t.set k (t.get k) = t := by
  cases k <;> rfl

/-- Two tables with the same entries are the same. -/
theorem PerHeater.ext_get {α : Type} {t u : PerHeater α} (h : ∀ k, t.get k = u.get k) : t = u := by
  cases t; cases u
  simp only [PerHeater.mk.injEq]
  exact ⟨h .batt, h .inst⟩

@[simp] theorem PerDomain.get_set_self {α : Type} (t : PerDomain α) (k : Domain) (x : α) : (t.set k x).get k = x := by
  cases k <;> rfl

theorem PerDomain.get_set {α : Type} (t : PerDomain α) (k j : Domain) (x : α) : (t.set k x).get j = if j = k then x else t.get j := by
  cases k <;> cases j <;> rfl

theorem PerDomain.get_set_of_ne {α : Type} (t : PerDomain α) {k j : Domain} (x : α) (h : j ≠ k) : (t.set k x).get j = t.get j := by
  rw [PerDomain.get_set, if_neg h]

@[simp] theorem PerDomain.set_set {α : Type} (t : PerDomain α) (k : Domain) (x y : α) : (t.set k x).set k y = t.set k y := by
  cases k <;> rfl

@[simp] theorem PerDomain.set_get {α : Type} (t : PerDomain α) (k : Domain) : t.set k (t.get k) = t := by
  cases k <;> rfl

/-- Two tables with the same entries are the same. -/
theorem PerDomain.ext_get {α : Type} {t u : PerDomain α} (h : ∀ k, t.get k = u.get k) : t = u := by
  cases t; cases u
  simp only [PerDomain.mk.injEq]
  exact ⟨h .aux, h .sensor, h .storage, h .gnss, h .modem, h .heatBatt, h .heatInst⟩

@[simp] theorem PerLease.get_set_self {α : Type} (t : PerLease α) (k : LeaseDomain) (x : α) : (t.set k x).get k = x := by
  cases k <;> rfl

theorem PerLease.get_set {α : Type} (t : PerLease α) (k j : LeaseDomain) (x : α) : (t.set k x).get j = if j = k then x else t.get j := by
  cases k <;> cases j <;> rfl

theorem PerLease.get_set_of_ne {α : Type} (t : PerLease α) {k j : LeaseDomain} (x : α) (h : j ≠ k) : (t.set k x).get j = t.get j := by
  rw [PerLease.get_set, if_neg h]

@[simp] theorem PerLease.set_set {α : Type} (t : PerLease α) (k : LeaseDomain) (x y : α) : (t.set k x).set k y = t.set k y := by
  cases k <;> rfl

@[simp] theorem PerLease.set_get {α : Type} (t : PerLease α) (k : LeaseDomain) : t.set k (t.get k) = t := by
  cases k <;> rfl

/-- Two tables with the same entries are the same. -/
theorem PerLease.ext_get {α : Type} {t u : PerLease α} (h : ∀ k, t.get k = u.get k) : t = u := by
  cases t; cases u
  simp only [PerLease.mk.injEq]
  exact ⟨h .modem, h .storage⟩

/-- Two tables with the same entries are the same. -/
theorem PerAxis.ext_get {α : Type} {t u : PerAxis α} (h : ∀ k, t.get k = u.get k) : t = u := by
  cases t; cases u
  simp only [PerAxis.mk.injEq]
  exact ⟨h .z, h .n, h .e⟩

@[simp] theorem PerAxis.get_map {α β : Type} (f : α → β) (t : PerAxis α) (a : Axis) : (t.map f).get a = f (t.get a) := by
  cases a <;> rfl

/-! ### What each named update writes -/

@[simp] theorem State.raise_port (s : State) (p : Port) (c : Attn) :
    (s.raise p c).port = s.port.set p ((s.port.get p).take (s.routing p) c).present := rfl

@[simp] theorem State.respond_port (s : State) (p : Port) (line : Text) :
    (s.respond p line).port = s.port.set p { s.port.get p with state := .responding, line := line, payload := [] } := rfl

@[simp] theorem State.elapse_tb (s : State) (k : Nat) :
    (s.elapse k).tb =
      { s.tb with
        raw := s.tb.raw + min k (s.tb.endAt - 1 - s.tb.raw)
        osc := s.tb.osc + min k (s.tb.endAt - 1 - s.tb.raw) } := rfl

@[simp] theorem State.updateRecord_cat (s : State) (id : Nat) (f : Record → Record) :
    (s.updateRecord id f).cat = s.cat.update id f := rfl

@[simp] theorem Catalogue.update_lastId (c : Catalogue) (id : Nat) (f : Record → Record) : (c.update id f).lastId = c.lastId :=
  rfl

@[simp] theorem Catalogue.update_records (c : Catalogue) (id : Nat) (f : Record → Record) :
    (c.update id f).records = mapWhere (fun r => decide (r.id = id)) f c.records := rfl

@[simp] theorem State.updateJob_jobs (s : State) (n : Nat) (f : Job → Job) :
    (s.updateJob n f).store.jobs = mapWhere (fun j => decide (j.number = n)) f s.store.jobs := rfl

@[simp] theorem State.updateJob_free (s : State) (n : Nat) (f : Job → Job) : (s.updateJob n f).store.free = s.store.free := rfl

@[simp] theorem State.updateJob_lastServed (s : State) (n : Nat) (f : Job → Job) :
    (s.updateJob n f).store.lastServed = s.store.lastServed := rfl

@[simp] theorem State.updateJob_reads (s : State) (n : Nat) (f : Job → Job) : (s.updateJob n f).store.reads = s.store.reads :=
  rfl

@[simp] theorem State.setStation_trig (s : State) (t : Station) : (s.setStation t).trig = { s.trig with station := t } := rfl

@[simp] theorem State.beginPriming_trig (s : State) :
    s.beginPriming.trig = { s.trig with comp := s.trig.comp.map Comp.beginPriming } := rfl

@[simp] theorem State.restartGrid_front (s : State) :
    s.restartGrid.front = { s.front with gridNext := gridFrom s.front.rate s.tb.raw } := rfl

@[simp] theorem State.takeRate_front (s : State) :
    s.takeRate.front = { s.front with rate := s.paramN .smpRate, gridNext := gridFrom (s.paramN .smpRate) s.tb.raw } := rfl

@[simp] theorem State.setDom_domain (s : State) (d : Domain) (r : DomRec) :
    (s.setDom d r).energy = { s.energy with domain := s.energy.domain.set d r } := rfl

@[simp] theorem State.setDom_dom_self (s : State) (d : Domain) (r : DomRec) : (s.setDom d r).dom d = r := by
  simp [State.dom]

theorem State.setDom_dom (s : State) (d e : Domain) (r : DomRec) : (s.setDom d r).dom e = if e = d then r else s.dom e := by
  simp [State.dom, PerDomain.get_set]

@[simp] theorem State.setHeater_thermal (s : State) (h : Heater) (r : HeaterRec) :
    (s.setHeater h r).thermal = { s.thermal with heater := s.thermal.heater.set h r } := rfl

@[simp] theorem State.setHeater_heater_self (s : State) (h : Heater) (r : HeaterRec) : (s.setHeater h r).heater h = r := by
  simp [State.heater]

@[simp] theorem State.startAcquisition_thermal (s : State) :
    s.startAcquisition.thermal = { s.thermal with completes := some (s.tb.osc + 5000000) } := rfl

@[simp] theorem State.chargeEnable_energy (s : State) :
    s.chargeEnable.energy = { s.energy with chargeEnable := s.mayCharge } := rfl

@[simp] theorem State.reloadSchedule_tb (s : State) :
    s.reloadSchedule.tb = { s.tb with scheduleDue := s.tb.uptime + s.paramN .timeSessionInterval * 3600 } := rfl

@[simp] theorem State.reportStep_lastId (s : State) (x : Int) : (s.reportStep x).cat.lastId = s.cat.lastId := rfl

@[simp] theorem State.dropReads_reads (s : State) : s.dropReads.store.reads = ⟨none, none⟩ := rfl

@[simp] theorem State.capacityWritten_energy (s : State) (t : Table) :
    (s.capacityWritten t).energy =
      { s.energy with
        capacityChanged := s.energy.capacityChanged || decide (t.get .pwrCapacity ≠ s.param .pwrCapacity) } := rfl

@[simp] theorem State.takeDues_nil (s : State) : s.takeDues [] = s := rfl

@[simp] theorem State.takeDues_cons (s : State) (d : Due) (l : List Due) :
    s.takeDues (d :: l) = (s.takeDue d).takeDues l := rfl

/-! ### The fields that an update of a record carries over -/

@[simp] theorem PortRec.clearBuffer_speed (r : PortRec) : (r.clearBuffer).speed = r.speed := rfl

@[simp] theorem PortRec.clearBuffer_buffer (r : PortRec) : (r.clearBuffer).buffer = [] := rfl

@[simp] theorem PortRec.clearBuffer_bad (r : PortRec) : (r.clearBuffer).bad = false := rfl

@[simp] theorem PortRec.clearBuffer_overlong (r : PortRec) : (r.clearBuffer).overlong = false := rfl

@[simp] theorem PortRec.clearBuffer_skipping (r : PortRec) : (r.clearBuffer).skipping = r.skipping := rfl

@[simp] theorem PortRec.clearBuffer_afterCr (r : PortRec) : (r.clearBuffer).afterCr = r.afterCr := rfl

@[simp] theorem PortRec.clearBuffer_state (r : PortRec) : (r.clearBuffer).state = r.state := rfl

@[simp] theorem PortRec.clearBuffer_owed (r : PortRec) : (r.clearBuffer).owed = r.owed := rfl

@[simp] theorem PortRec.clearBuffer_line (r : PortRec) : (r.clearBuffer).line = r.line := rfl

@[simp] theorem PortRec.clearBuffer_payload (r : PortRec) : (r.clearBuffer).payload = r.payload := rfl

@[simp] theorem PortRec.clearBuffer_restartWaits (r : PortRec) : (r.clearBuffer).restartWaits = r.restartWaits := rfl

@[simp] theorem PortRec.clearBuffer_pending (r : PortRec) : (r.clearBuffer).pending = r.pending := rfl

@[simp] theorem PortRec.clearBuffer_presented (r : PortRec) : (r.clearBuffer).presented = r.presented := rfl

@[simp] theorem PortRec.oweBusy_speed (r : PortRec) : (r.oweBusy).speed = r.speed := rfl

@[simp] theorem PortRec.oweBusy_buffer (r : PortRec) : (r.oweBusy).buffer = r.buffer := rfl

@[simp] theorem PortRec.oweBusy_bad (r : PortRec) : (r.oweBusy).bad = r.bad := rfl

@[simp] theorem PortRec.oweBusy_overlong (r : PortRec) : (r.oweBusy).overlong = r.overlong := rfl

@[simp] theorem PortRec.oweBusy_skipping (r : PortRec) : (r.oweBusy).skipping = r.skipping := rfl

@[simp] theorem PortRec.oweBusy_afterCr (r : PortRec) : (r.oweBusy).afterCr = r.afterCr := rfl

@[simp] theorem PortRec.oweBusy_state (r : PortRec) : (r.oweBusy).state = r.state := rfl

@[simp] theorem PortRec.oweBusy_owed (r : PortRec) : (r.oweBusy).owed = min 16 (r.owed + 1) := rfl

@[simp] theorem PortRec.oweBusy_line (r : PortRec) : (r.oweBusy).line = r.line := rfl

@[simp] theorem PortRec.oweBusy_payload (r : PortRec) : (r.oweBusy).payload = r.payload := rfl

@[simp] theorem PortRec.oweBusy_restartWaits (r : PortRec) : (r.oweBusy).restartWaits = r.restartWaits := rfl

@[simp] theorem PortRec.oweBusy_pending (r : PortRec) : (r.oweBusy).pending = r.pending := rfl

@[simp] theorem PortRec.oweBusy_presented (r : PortRec) : (r.oweBusy).presented = r.presented := rfl

@[simp] theorem Timebase.fixSecond_clock (t : Timebase) (m k : Nat) : (t.fixSecond m k).clock = t.clock := rfl

@[simp] theorem Timebase.fixSecond_session (t : Timebase) (m k : Nat) : (t.fixSecond m k).session = t.session := rfl

@[simp] theorem Timebase.fixSecond_seconds (t : Timebase) (m k : Nat) : (t.fixSecond m k).seconds = m := rfl

@[simp] theorem Timebase.fixSecond_raw (t : Timebase) (m k : Nat) : (t.fixSecond m k).raw = k := rfl

@[simp] theorem Timebase.fixSecond_endAt (t : Timebase) (m k : Nat) : (t.fixSecond m k).endAt = max (10000000 + t.nextN + t.nextSlew).toNat (k + 1) := rfl

@[simp] theorem Timebase.fixSecond_osc (t : Timebase) (m k : Nat) : (t.fixSecond m k).osc = t.osc := rfl

@[simp] theorem Timebase.fixSecond_n (t : Timebase) (m k : Nat) : (t.fixSecond m k).n = t.nextN := rfl

@[simp] theorem Timebase.fixSecond_slew (t : Timebase) (m k : Nat) : (t.fixSecond m k).slew = t.nextSlew := rfl

@[simp] theorem Timebase.fixSecond_uptime (t : Timebase) (m k : Nat) : (t.fixSecond m k).uptime = t.uptime := rfl

@[simp] theorem Timebase.fixSecond_trim (t : Timebase) (m k : Nat) : (t.fixSecond m k).trim = t.trim := rfl

@[simp] theorem Timebase.fixSecond_acc (t : Timebase) (m k : Nat) : (t.fixSecond m k).acc = t.accRaised - t.nextN * 10000 := rfl

@[simp] theorem Timebase.fixSecond_p (t : Timebase) (m k : Nat) : (t.fixSecond m k).p = t.p - t.nextSlew := rfl

@[simp] theorem Timebase.fixSecond_tc (t : Timebase) (m k : Nat) : (t.fixSecond m k).tc = t.tc := rfl

@[simp] theorem Timebase.fixSecond_u16 (t : Timebase) (m k : Nat) : (t.fixSecond m k).u16 = t.u16 := rfl

@[simp] theorem Timebase.fixSecond_thetaRef (t : Timebase) (m k : Nat) : (t.fixSecond m k).thetaRef = t.thetaRef := rfl

@[simp] theorem Timebase.fixSecond_buffer (t : Timebase) (m k : Nat) : (t.fixSecond m k).buffer = t.buffer := rfl

@[simp] theorem Timebase.fixSecond_reference (t : Timebase) (m k : Nat) : (t.fixSecond m k).reference = t.reference := rfl

@[simp] theorem Timebase.fixSecond_goodCount (t : Timebase) (m k : Nat) : (t.fixSecond m k).goodCount = t.goodCount := rfl

@[simp] theorem Timebase.fixSecond_settleCount (t : Timebase) (m k : Nat) : (t.fixSecond m k).settleCount = t.settleCount := rfl

@[simp] theorem Timebase.fixSecond_outlierCount (t : Timebase) (m k : Nat) : (t.fixSecond m k).outlierCount = t.outlierCount := rfl

@[simp] theorem Timebase.fixSecond_missingCount (t : Timebase) (m k : Nat) : (t.fixSecond m k).missingCount = t.missingCount := rfl

@[simp] theorem Timebase.fixSecond_continuing (t : Timebase) (m k : Nat) : (t.fixSecond m k).continuing = t.continuing := rfl

@[simp] theorem Timebase.fixSecond_window (t : Timebase) (m k : Nat) : (t.fixSecond m k).window = t.window.map fun w => { w with net := w.net + t.nextSlew } := rfl

@[simp] theorem Timebase.fixSecond_discard (t : Timebase) (m k : Nat) : (t.fixSecond m k).discard = t.discard := rfl

@[simp] theorem Timebase.fixSecond_sessionStart (t : Timebase) (m k : Nat) : (t.fixSecond m k).sessionStart = t.sessionStart := rfl

@[simp] theorem Timebase.fixSecond_scheduleDue (t : Timebase) (m k : Nat) : (t.fixSecond m k).scheduleDue = t.scheduleDue := rfl

@[simp] theorem Timebase.fixSecond_holdOffDue (t : Timebase) (m k : Nat) : (t.fixSecond m k).holdOffDue = t.holdOffDue := rfl

@[simp] theorem Timebase.fixSecond_failures (t : Timebase) (m k : Nat) : (t.fixSecond m k).failures = t.failures := rfl

@[simp] theorem Timebase.failed_clock (t : Timebase) : (t.failed).clock = if t.clock = .locked then .holdover else t.clock := rfl

@[simp] theorem Timebase.failed_session (t : Timebase) : (t.failed).session = .idle := rfl

@[simp] theorem Timebase.failed_seconds (t : Timebase) : (t.failed).seconds = t.seconds := rfl

@[simp] theorem Timebase.failed_raw (t : Timebase) : (t.failed).raw = t.raw := rfl

@[simp] theorem Timebase.failed_endAt (t : Timebase) : (t.failed).endAt = t.endAt := rfl

@[simp] theorem Timebase.failed_osc (t : Timebase) : (t.failed).osc = t.osc := rfl

@[simp] theorem Timebase.failed_n (t : Timebase) : (t.failed).n = t.n := rfl

@[simp] theorem Timebase.failed_slew (t : Timebase) : (t.failed).slew = t.slew := rfl

@[simp] theorem Timebase.failed_uptime (t : Timebase) : (t.failed).uptime = t.uptime := rfl

@[simp] theorem Timebase.failed_trim (t : Timebase) : (t.failed).trim = t.trim := rfl

@[simp] theorem Timebase.failed_acc (t : Timebase) : (t.failed).acc = t.acc := rfl

@[simp] theorem Timebase.failed_p (t : Timebase) : (t.failed).p = 0 := rfl

@[simp] theorem Timebase.failed_tc (t : Timebase) : (t.failed).tc = t.tc := rfl

@[simp] theorem Timebase.failed_u16 (t : Timebase) : (t.failed).u16 = t.u16 := rfl

@[simp] theorem Timebase.failed_thetaRef (t : Timebase) : (t.failed).thetaRef = t.thetaRef := rfl

@[simp] theorem Timebase.failed_buffer (t : Timebase) : (t.failed).buffer = none := rfl

@[simp] theorem Timebase.failed_reference (t : Timebase) : (t.failed).reference = none := rfl

@[simp] theorem Timebase.failed_goodCount (t : Timebase) : (t.failed).goodCount = t.goodCount := rfl

@[simp] theorem Timebase.failed_settleCount (t : Timebase) : (t.failed).settleCount = t.settleCount := rfl

@[simp] theorem Timebase.failed_outlierCount (t : Timebase) : (t.failed).outlierCount = t.outlierCount := rfl

@[simp] theorem Timebase.failed_missingCount (t : Timebase) : (t.failed).missingCount = t.missingCount := rfl

@[simp] theorem Timebase.failed_continuing (t : Timebase) : (t.failed).continuing = false := rfl

@[simp] theorem Timebase.failed_window (t : Timebase) : (t.failed).window = none := rfl

@[simp] theorem Timebase.failed_discard (t : Timebase) : (t.failed).discard = t.discard := rfl

@[simp] theorem Timebase.failed_sessionStart (t : Timebase) : (t.failed).sessionStart = t.sessionStart := rfl

@[simp] theorem Timebase.failed_scheduleDue (t : Timebase) : (t.failed).scheduleDue = t.scheduleDue := rfl

@[simp] theorem Timebase.failed_holdOffDue (t : Timebase) : (t.failed).holdOffDue = some (t.uptime + 3600) := rfl

@[simp] theorem Timebase.failed_failures (t : Timebase) : (t.failed).failures = t.failures + 1 := rfl

end Sys2Proof.Machine
end

