-- ==== Sys2Proof/Laws/Ops.lean ====
section
/-! SUPPORT. What each shared operation can do, said once: how a line is met, how a domain is requested and dropped, what a cause
does to a port, and where an alert goes. The provers cite these instead of unfolding the operations. -/

namespace Sys2Proof.Machine

open Sys2Proof

/-! ### Lines (R187, R191, R192) -/

/-- A READY port that is not skipping hands the line to the command, its buffer emptied. -/
theorem State.takeLine_ready {s : State} {p : Port} (h : s.Takes p) (act : State → State) :
    s.takeLine p act = act { s with port := s.port.set p (s.port.get p).emptied } := by
  simp only [State.takeLine, h.heard, Bool.false_eq_true, if_false]
  split
  · rfl
  · next e => cases h.ready.symm.trans e
  · next e => cases h.ready.symm.trans e

/-- A port that is skipping takes the line as the end of what it discards. -/
theorem State.takeLine_skipping {s : State} {p : Port} (h : (s.port.get p).skipping = true) (act : State → State) :
    s.takeLine p act = { s with port := s.port.set p { s.port.get p with skipping := false, afterCr := false } } := by
  simp only [State.takeLine, h, if_true]

/-- A port with a command in progress discards the line and owes BUSY for it. -/
theorem State.takeLine_busy {s : State} {p : Port} (h : (s.port.get p).skipping = false)
    (b : (s.port.get p).state ≠ .ready) (act : State → State) :
    s.takeLine p act =
      { s with
        port := s.port.set p { (s.port.get p).emptied with owed := min 16 ((s.port.get p).owed + 1) } } := by
  simp only [State.takeLine, h, Bool.false_eq_true, if_false]
  split
  · next e => exact absurd e b
  · rfl
  · rfl

/-- The emptied port, answered, is the port answered. -/
@[simp] theorem State.respond_emptied (s : State) (p : Port) (line : Text) :
    State.respond { s with port := s.port.set p (s.port.get p).emptied } p line = s.answered p line := by
  simp [State.respond, State.answered]

theorem State.noArg_nil {s : State} {p : Port} {w : String} {args : Text} (h : tokens args = []) (act : State → State) :
    s.noArg p w args act = act s := by
  simp [State.noArg, h]

theorem State.noArg_cons {s : State} {p : Port} {w : String} {args : Text} (h : tokens args ≠ []) (act : State → State) :
    s.noArg p w args act = s.respond p (reply .badSyntax w []) := by
  simp [State.noArg, h]

theorem State.withNumbers_some {s : State} {p : Port} {w : String} {k : Nat} {args : Text} {ns : List Int}
    (h : numberArgs (tokens args) = some ns) (e : ns.length = k) (act : List Int → State → State) :
    s.withNumbers p w k args act = act ns s := by
  simp [State.withNumbers, h, e]

/-- An id is out of range exactly below 1 and above 65,535. -/
theorem idInRange_eq_false {n : Int} : idInRange n = false ↔ n < 1 ∨ 65535 < n := by
  have : (Config.idTop : Int) = 65535 := rfl
  unfold idInRange
  rw [this, Bool.and_eq_false_iff, decide_eq_false_iff_not, decide_eq_false_iff_not]
  omega

/-- An id is in range from 1 to 65,535. -/
theorem idInRange_eq_true {n : Int} : idInRange n = true ↔ ¬ (n < 1 ∨ 65535 < n) := by
  rw [← Bool.not_eq_false, idInRange_eq_false]

/-! ### Domains (R165, R166) -/

/-- A request of a domain that is no heater domain. -/
theorem State.setRequest_true {s : State} {d : Domain} (h : isHeater d = false) :
    s.setRequest d true = s.setDom d (s.dom d).asked := by
  unfold State.setRequest DomRec.asked
  split
  · simp [State.setDom, State.dom]
  · next e =>
    have e' : (s.dom d).requested = false := by simpa using e
    simp only [if_true, State.wait, State.setDom_dom_self]
    by_cases o : (s.dom d).state = .off
    · simp [o, State.heldOff, h, State.setDom]
    · simp [o]

/-- A drop of a domain whose leaving of ON makes no report. -/
theorem State.setRequest_false {s : State} {d : Domain} (h : ∀ t : State, t.leftOn d = t) :
    s.setRequest d false = s.setDom d (s.dom d).dropped := by
  unfold State.setRequest DomRec.dropped
  cases e : (s.dom d).requested with
  | false => simp [State.setDom, State.dom]
  | true =>
    simp only [Bool.true_eq_false, if_false, Bool.false_eq_true, if_true, State.turnOff, State.setDom_dom_self, h]
    cases o : (s.dom d).state <;> simp [State.setDom]

/-- The Timebase requests GNSS (R13). -/
theorem State.request_gnss_true (s : State) :
    s.request .gnss true =
      { s with
        energy :=
          { s.energy with
            domain := { s.energy.domain with gnss := s.energy.domain.gnss.asked, aux := s.energy.domain.aux.asked } } } := by
  have g : s.energy.domain.gnss.asked.requested = true := by unfold DomRec.asked; split <;> simp_all
  unfold State.request State.followAux
  rw [State.setRequest_true rfl]
  have : ((s.setDom .gnss (s.dom .gnss).asked).energy.domain.gnss.requested
      || (s.setDom .gnss (s.dom .gnss).asked).energy.domain.modem.requested) = true := by
    simp [PerDomain.set, State.dom, PerDomain.get, g]
  rw [this, State.setRequest_true rfl]
  simp [State.setDom, State.dom, PerDomain.set, PerDomain.get]

/-- The Timebase releases GNSS (R14, R21). -/
theorem State.request_gnss_false (s : State) :
    s.request .gnss false = { s with energy := { s.energy with domain := s.gnssReleased } } := by
  have g : s.energy.domain.gnss.dropped.requested = false := by unfold DomRec.dropped; split <;> simp_all
  unfold State.request State.followAux
  rw [State.setRequest_false fun _ => rfl]
  have : ((s.setDom .gnss (s.dom .gnss).dropped).energy.domain.gnss.requested
      || (s.setDom .gnss (s.dom .gnss).dropped).energy.domain.modem.requested) = s.energy.domain.modem.requested := by
    simp [PerDomain.set, State.dom, PerDomain.get, g]
  rw [this]
  cases m : s.energy.domain.modem.requested with
  | true =>
    rw [State.setRequest_true rfl]
    simp [State.setDom, State.dom, PerDomain.set, PerDomain.get, State.gnssReleased, m]
  | false =>
    rw [State.setRequest_false fun _ => rfl]
    simp [State.setDom, State.dom, PerDomain.set, PerDomain.get, State.gnssReleased, m]

/-- R13: a session starts. -/
theorem State.startSession_eq (s : State) : s.startSession = s.sessionBegun := by
  unfold State.startSession
  simp only [State.request_gnss_true]
  rfl

/-! ### Attention (R196, R197, R198) -/

/-- The fold that `highest` makes, from a cause already found: a cause of the list or that one, and none comes before it. -/
theorem highest_from (l : List Attn) (b : Attn) :
    ∃ c, (c = b ∨ c ∈ l) ∧ c.priority ≤ b.priority ∧ (∀ e ∈ l, c.priority ≤ e.priority)
      ∧ l.foldl (fun best c =>
          match best with
          | none => some c
          | some b => if c.priority < b.priority then some c else some b) (some b) = some c := by
  induction l generalizing b with
  | nil => exact ⟨b, .inl rfl, le_refl _, by simp, rfl⟩
  | cons x l ih =>
    by_cases h : x.priority < b.priority
    · obtain ⟨c, hc, hb, hl, e⟩ := ih x
      refine ⟨c, ?_, by omega, ?_, ?_⟩
      · rcases hc with rfl | hc
        · exact .inr (.head _)
        · exact .inr (.tail _ hc)
      · intro e he
        rcases List.mem_cons.1 he with rfl | he
        · exact hb
        · exact hl e he
      · simpa [h] using e
    · obtain ⟨c, hc, hb, hl, e⟩ := ih b
      refine ⟨c, ?_, hb, ?_, ?_⟩
      · rcases hc with rfl | hc
        · exact .inl rfl
        · exact .inr (.tail _ hc)
      · intro e he
        rcases List.mem_cons.1 he with rfl | he
        · omega
        · exact hl e he
      · simpa [h] using e

/-- R197: the highest-priority cause of a pending set is a member of it that none comes before; an empty set has none. -/
theorem highest_cases (l : List Attn) :
    (l = [] ∧ highest l = none) ∨ ∃ c ∈ l, highest l = some c ∧ ∀ e ∈ l, c.priority ≤ e.priority := by
  cases l with
  | nil => exact .inl ⟨rfl, rfl⟩
  | cons x l =>
    obtain ⟨c, hc, hb, hl, e⟩ := highest_from l x
    refine .inr ⟨c, ?_, e, ?_⟩
    · rcases hc with rfl | hc
      · exact .head _
      · exact .tail _ hc
    · intro e he
      rcases List.mem_cons.1 he with rfl | he
      · exact hb
      · exact hl e he

/-- A port that presents keeps its pending set. -/
@[simp] theorem PortRec.present_pending (r : PortRec) : r.present.pending = r.pending := by
  unfold PortRec.present; split <;> rfl

/-- R196: a routed cause is pending after it is taken. -/
theorem PortRec.mem_take {r : PortRec} {mask : Nat} {c : Attn} (h : routed mask c = true) : c ∈ (r.take mask c).pending := by
  unfold PortRec.take
  split
  · simp
  · next g => simpa [h] using g

/-- R196: what was pending stays pending when a cause is taken. -/
theorem PortRec.mem_take_of_mem {r : PortRec} {mask : Nat} {c d : Attn} (h : d ∈ r.pending) :
    d ∈ (r.take mask c).pending := by
  unfold PortRec.take
  split
  · simp [h]
  · exact h

/-- R196: a cause raised toward a port is pending there where it is routed. -/
theorem State.raised_raise (s : State) (p : Port) (c : Attn) : (s.raise p c).Raised p c := by
  intro h
  have e : (s.raise p c).routing p = s.routing p := by cases p <;> rfl
  rw [e] at h
  have g : (s.raise p c).port.get p = ((s.port.get p).take (s.routing p) c).present := by cases p <;> rfl
  rw [g, PortRec.present_pending]
  exact PortRec.mem_take h

/-- R196: what was raised toward a port stays raised when another cause is. -/
theorem State.Raised.raise {s : State} {p : Port} {c : Attn} (h : s.Raised p c) (q : Port) (d : Attn) :
    (s.raise q d).Raised p c := by
  intro g
  have e : (s.raise q d).routing p = s.routing p := by cases p <;> rfl
  rw [e] at g
  have m := h g
  cases p <;> cases q <;>
    first
    | exact m
    | (show c ∈ (((s.port.get _).take (s.routing _) d).present).pending
       rw [PortRec.present_pending]
       exact PortRec.mem_take_of_mem m)

/-- R196: a cause raised toward both ports. -/
theorem State.raised_raiseBoth (s : State) (p : Port) (c : Attn) : (s.raiseBoth c).Raised p c := by
  cases p
  · exact (s.raised_raise .a c).raise .b c
  · exact (s.raise .a c).raised_raise .b c

/-! ### Blocks (R95) -/

/-- With no job waiting for a block, the free-block list is handed to nobody. -/
theorem State.handOutTo_eq_self (l : List Nat) (s : State) (h : ∀ j ∈ s.store.jobs, j.state ≠ .waitingBlock) :
    s.handOutTo l = s := by
  induction l with
  | nil => rfl
  | cons n l ih =>
    unfold State.handOutTo
    cases q : s.store.find n with
    | none => exact ih
    | some j =>
      simp only [h j (List.mem_of_find?_eq_some q), false_and, if_false]
      exact ih

/-- R95: blocks that join the list while no job waits for one stand at its tail. -/
theorem State.joinBlocks_eq {s : State} (blocks : List Nat) (h : ∀ j ∈ s.store.jobs, j.state ≠ .waitingBlock) :
    s.joinBlocks blocks = { s with store := { s.store with free := s.store.free ++ blocks } } := by
  unfold State.joinBlocks
  exact State.handOutTo_eq_self _ _ h

/-! ### The queue (R119, R133) -/

/-- R119: a new alert joins a queue that has room. -/
theorem State.join_room {s : State} (h : s.alerts.alerts.length < 16) (x : Alert) : s.join x = (s.place x).judgeWaiting := by
  have : s.alerts.admits x.severity = some none := by
    unfold AlertQueue.admits
    rw [if_pos (show s.alerts.alerts.length < Config.queuePlaces from h)]
  unfold State.join
  rw [this]

/-- An alert that takes its place makes the queue one longer. -/
theorem insertAlert_length (x : Alert) (l : List Alert) : (insertAlert x l).length = l.length + 1 := by
  induction l with
  | nil => rfl
  | cons y l ih =>
    unfold insertAlert
    split
    · rfl
    · simp [ih]

/-- What a queue holds after an alert takes its place: that alert and what it held. -/
theorem mem_insertAlert {x y : Alert} {l : List Alert} : y ∈ insertAlert x l ↔ y = x ∨ y ∈ l := by
  induction l with
  | nil => simp [insertAlert]
  | cons z l ih =>
    unfold insertAlert
    split
    · simp
    · simp only [List.mem_cons, ih]; tauto

/-! ### Reads (R106, R109, R191) -/

/-- R106: a port asks for the store exactly while a read of it has sets still to fetch. -/
theorem Store.request_eq_some {t : Store} {p : Port} {r : Read} :
    t.request p = some r ↔ t.reads.get p = some r ∧ 0 < r.left := by
  simp [Store.request, Option.filter_eq_some_iff]

theorem Store.request_eq_none {t : Store} {p : Port} :
    t.request p = none ↔ ∀ r, t.reads.get p = some r → r.left = 0 := by
  simp [Store.request, Option.filter_eq_none_iff]

/-- R109, R191: the end of a port's read: the port has none, and the record it pinned has one pin fewer. -/
theorem State.endRead_eq (s : State) (p : Port) :
    s.endRead p =
      match s.store.reads.get p with
      | some r => { s with store := { s.store with reads := s.store.reads.set p none } }.unpin r.record
      | none => s := rfl

@[simp] theorem State.endRead_reads (s : State) (p : Port) : (s.endRead p).store.reads = s.store.reads.set p none := by
  unfold State.endRead
  split
  · rfl
  · next h => rw [← h, PerPort.set_get]

/-! ### Sessions, bursts and restarts (R21, R112, R211) -/

/-- R21: after a good pair in TRACKING the session is let alone, goes on as one that continues, or ends. -/
theorem State.settled_cases (s : State) :
    (s.tb.continuing = false ∧ s.tb.settleCount < s.paramN .timeSettlePairs ∧ s.settled = s)
    ∨ (s.continues = true ∧ s.settled = { s with tb := { s.tb with continuing := true } })
    ∨ (s.continues = false ∧ s.settled = s.endSession) := by
  unfold State.settled
  split
  · cases h : s.continues
    · exact .inr (.inr ⟨rfl, by simp⟩)
    · exact .inr (.inl ⟨rfl, by simp⟩)
  · rename_i h
    rw [not_or] at h
    exact .inl ⟨by simpa using h.1, Nat.lt_of_not_le h.2, rfl⟩

/-- R102, R112: the job of a burst in progress is COPYING and stands in the table. -/
theorem Store.inBurst_copying {t : Store} {entry : Nat} {j : Job} (h : t.inBurst entry = some j) :
    j ∈ t.jobs ∧ j.state = .copying := by
  unfold Store.inBurst Store.served at h
  split at h
  · next e => cases h; exact ⟨List.mem_of_find?_eq_some e, (by simpa using List.find?_some e : _ ∧ _).2⟩
  · split at h
    · next e => cases h; exact ⟨List.mem_of_find?_eq_some e, (by simpa using List.find?_some e : _ ∧ _).2⟩
    · exact ⟨List.mem_of_find?_eq_some h, by simpa using List.find?_some h⟩

/-- R112: a restart with no job COPYING stops no burst. -/
theorem State.stopBurst_of_served_none {s : State} (h : s.store.served = none) (entry written : Nat) :
    s.stopBurst entry written = s := by
  have e : s.store.inBurst entry = none := by
    unfold Store.inBurst
    split
    · next j hj =>
      exfalso
      have c : j.number = entry ∧ j.state = .copying := by simpa using List.find?_some hj
      have m := List.mem_of_find?_eq_some hj
      unfold Store.served at h
      split at h
      · cases h
      · exact absurd c.2 (by simpa using List.find?_eq_none.1 h j m)
    · exact h
  unfold State.stopBurst
  rw [e]

/-- R112: a burst that has written no set leaves nothing. -/
theorem State.stopBurst_zero (s : State) (entry : Nat) : s.stopBurst entry 0 = s := by
  unfold State.stopBurst
  split
  · simp [Front.sets]
  · rfl

/-- R211: a restart is made where one is due, and the others stay due. -/
theorem State.dueRestart_cases (s : State) :
    (s.restartsDue = 0 ∧ s.dueRestart = s)
    ∨ ∃ n, s.restartsDue = n + 1 ∧ s.dueRestart = { s.makeRestart with restartsDue := n } := by
  unfold State.dueRestart
  rcases h : s.restartsDue with _ | n
  · exact .inl ⟨rfl, by simp⟩
  · exact .inr ⟨n, rfl, by simp⟩

/-- R3: what falls due is taken in the order given. -/
theorem State.takeDues_append (s : State) (l k : List Due) : s.takeDues (l ++ k) = (s.takeDues l).takeDues k := by
  induction l generalizing s with
  | nil => rfl
  | cons d l ih => exact ih (s.takeDue d)

end Sys2Proof.Machine
end

