-- ==== Sys2Proof/Laws/Pairs.lean ====
section
/-! SUPPORT. What decides a session's start, a pair and the taking of a PPS, in the words of the statements; and what a change of
the clock state or class brings. -/

namespace Sys2Proof.Machine

open Sys2Proof

theorem State.permits_scheduled (s : State) : (s.permits .scheduled = true) ↔ (s.energy.level = some .normal
              ∨ (s.energy.level = some .critical ∧ (s.tb.cls = .poor ∨ s.tb.cls = .none))) := by
  unfold State.permits
  cases s.energy.level with
  | none => simp
  | some l => cases l <;> simp

theorem State.permits_command (s : State) : (s.permits .command = true) ↔ (s.energy.level = some .normal ∨ s.energy.level = some .conserve
              ∨ (s.energy.level = some .critical ∧ (s.tb.cls = .poor ∨ s.tb.cls = .none))) := by
  unfold State.permits
  cases s.energy.level with
  | none => simp
  | some l => cases l <;> simp


theorem State.validFor_iff (u : State) (m : Message) : u.ValidFor m ↔ u.validMessage = some m := by
  unfold State.validMessage
  constructor
  · intro h; simp [h.held, h.marked, h.sats]; exact h.early
  · intro h
    cases hb : u.tb.buffer with
    | none => simp [hb] at h
    | some k =>
      simp only [hb] at h
      split at h
      · next c => cases h; exact ⟨hb, c.1, c.2.1, c.2.2⟩
      · cases h

theorem State.pairs_iff (u : State) (m : Message) : u.Pairs m ↔ u.goodPair = some m := by
  unfold State.goodPair
  constructor
  · intro h
    rw [(State.validFor_iff u m).mp h.valid]
    have : u.tb.follows m = true := by
      unfold Timebase.follows
      cases hr : u.tb.reference with
      | none => rfl
      | some r => exact decide_eq_true (h.follows r hr)
    simp [this]
  · intro h
    cases hv : u.validMessage with
    | none => simp [hv] at h
    | some k =>
      simp only [hv] at h
      split at h
      · next c =>
        cases h
        refine ⟨(State.validFor_iff u _).mpr hv, fun r hr => ?_⟩
        simp only [Timebase.follows, hr] at c
        exact of_decide_eq_true c
      · cases h

theorem State.outside_iff (u : State) (m : Message) : u.outside m = true ↔ ¬ u.Within m := by
  unfold State.outside State.Within Timebase.agrees Timebase.phase State.phaseError Timebase.ppsSecond
  rw [Bool.or_eq_true, decide_eq_true_eq, Bool.not_eq_true', decide_eq_false_iff_not]
  simp only [count40]
  rw [not_and_or]
  simp only [Nat.not_le]
  tauto

theorem State.outside_eq_false (u : State) (m : Message) : u.outside m = false ↔ u.Within m := by
  rw [← Bool.not_eq_true, State.outside_iff, not_not]

theorem State.goodPair_eq_none (u : State) : u.goodPair = none ↔ ∀ m, ¬ u.Pairs m := by
  simp only [State.pairs_iff]
  cases u.goodPair <;> simp

theorem State.validMessage_eq_none (u : State) : u.validMessage = none ↔ ∀ m, ¬ u.ValidFor m := by
  simp only [State.validFor_iff]
  cases u.validMessage <;> simp

theorem State.takePps_ignored (u : State) (e : Ending) (h : u.tb.session = .idle ∨ u.tb.session = .powering) : u.takePps e = u := by
  unfold State.takePps; rcases h with h | h <;> simp [h]

theorem State.takePps_seeking (u : State) (e : Ending) (h : u.tb.session = .seeking) :
    u.takePps e = u.afterPps.seekingPair e u.goodPair := by
  unfold State.takePps; simp [h]

theorem State.takePps_tracking (u : State) (e : Ending) (h : u.tb.session = .tracking) :
    u.takePps e = u.afterPps.trackingPair e u.goodPair := by
  unfold State.takePps; simp [h]

/-- Entry to LOCKED raises TIME_CHANGED and posts nothing (R8, R23). -/
theorem State.noteClock_locked {s : State} {b : Timebase} (h : s.tb.clock = .locked) :
    s.noteClock b = if b.clock = s.tb.clock ∧ b.cls = s.tb.cls then s else s.raiseBoth .timeChanged := by
  have e : s.tb.cls.degradedTime = false := by simp [Timebase.cls, h, TimeClass.degradedTime]
  unfold State.noteClock
  split <;> simp [e]

/-- Where clock state and class stay, nothing is raised or posted (R8, R23). -/
theorem State.noteClock_same {s : State} {b : Timebase} (h : b.clock = s.tb.clock) (c : b.cls = s.tb.cls) :
    s.noteClock b = s := by
  have e : (s.tb.cls.goodTime && s.tb.cls.degradedTime) = false := by cases s.tb.cls <;> rfl
  simp [State.noteClock, h, c, e]

end Sys2Proof.Machine
end

