-- ==== Sys2Proof/Laws/Measure.lean ====
section
/-! SUPPORT. What a change of a domain, of a lease, of a heater or of the level writes of the Energy Unit and of the Timebase, and
what it leaves of the front and the store: for each operation one equation, so that what it does not name is unchanged. -/

namespace Sys2Proof.Machine

open Sys2Proof

/-! ### Of the Energy Unit -/

theorem State.turnOff_energy (s : State) (d : Domain) :
    (s.turnOff d).energy = { s.energy with domain := (s.turnOff d).energy.domain } := by
  unfold State.turnOff
  split <;> simp

theorem State.wait_energy (s : State) (d : Domain) :
    (s.wait d).energy = { s.energy with domain := (s.wait d).energy.domain } := by
  unfold State.wait
  split <;> simp

theorem State.setRequest_energy (s : State) (d : Domain) (b : Bool) :
    (s.setRequest d b).energy = { s.energy with domain := (s.setRequest d b).energy.domain } := by
  unfold State.setRequest
  split
  · simp
  · split
    · rw [State.wait_energy]; simp
    · rw [State.turnOff_energy]; simp

theorem State.request_energy (s : State) (d : Domain) (b : Bool) :
    (s.request d b).energy = { s.energy with domain := (s.request d b).energy.domain } := by
  unfold State.request State.followAux
  rw [State.setRequest_energy, State.setRequest_energy]

theorem State.moveHeater_energy (s : State) (h : Heater) (x : HeaterState) :
    (s.moveHeater h x).energy = { s.energy with domain := (s.moveHeater h x).energy.domain } := by
  simp only [State.moveHeater]
  split
  · rw [State.request_energy]; simp
  · simp

theorem State.evaluateHeater_energy (s : State) (h : Heater) :
    (s.evaluateHeater h).energy = { s.energy with domain := (s.evaluateHeater h).energy.domain } :=
  State.moveHeater_energy ..

theorem State.evaluateHeaters_energy (s : State) :
    s.evaluateHeaters.energy = { s.energy with domain := s.evaluateHeaters.energy.domain } := by
  unfold State.evaluateHeaters
  rw [State.evaluateHeater_energy, State.evaluateHeater_energy]

theorem State.levelToThermal_energy (s : State) (l : Level) :
    (s.levelToThermal l).energy = { s.energy with domain := (s.levelToThermal l).energy.domain } := by
  unfold State.levelToThermal
  rw [State.evaluateHeaters_energy]

theorem State.sourceReport_energy (s : State) (b : Bool) :
    (s.sourceReport b).energy = { s.energy with domain := (s.sourceReport b).energy.domain } := by
  unfold State.sourceReport
  rw [State.evaluateHeater_energy]

theorem State.failSession_energy (s : State) :
    s.failSession.energy = { s.energy with domain := s.failSession.energy.domain } := by
  simp only [State.failSession]
  split
  · simp
  · split <;> simp [State.request_gnss_false]

theorem State.levelToTimebase_energy (s : State) (l : Level) :
    (s.levelToTimebase l).energy = { s.energy with domain := (s.levelToTimebase l).energy.domain } := by
  unfold State.levelToTimebase
  split
  · exact State.failSession_energy s
  · simp

theorem State.levelDomains_energy (s : State) (b : Option Level) (l : Level) :
    (s.levelDomains b l).energy = { s.energy with domain := (s.levelDomains b l).energy.domain } := by
  simp only [State.levelDomains]
  split
  · rw [State.turnOff_energy, State.turnOff_energy, State.request_energy]
  · split
    · rw [State.wait_energy, State.wait_energy, State.request_energy]
    · rw [State.request_energy]

theorem State.endLease_energy (s : State) (p : Port) (d : LeaseDomain) (r : EndReason) (q : Bool) :
    (s.endLease p d r q).energy =
      { s.energy with
        domain := (s.endLease p d r q).energy.domain
        lease := (s.endLease p d r q).energy.lease
        lastEnd := (s.endLease p d r q).energy.lastEnd } := by
  cases q <;>
  · simp only [State.endLease]
    split
    · simp
    · simp only [if_true, Bool.false_eq_true, if_false]
      split
      · simp [Energy.setLease]
      · rw [State.request_energy]
        simp [Energy.setLease]

theorem State.limitLease_energy (s : State) (v : Level) (p : Port) (d : LeaseDomain) :
    (s.limitLease v p d).energy =
      { s.energy with
        domain := (s.limitLease v p d).energy.domain
        lease := (s.limitLease v p d).energy.lease
        lastEnd := (s.limitLease v p d).energy.lastEnd } := by
  unfold State.limitLease
  split
  · simp
  · split
    · exact State.endLease_energy ..
    · simp [Energy.setLease]

theorem State.limitLeases_energy (s : State) (v : Level) (l : List (Port × LeaseDomain)) :
    (s.limitLeases v l).energy =
      { s.energy with
        domain := (s.limitLeases v l).energy.domain
        lease := (s.limitLeases v l).energy.lease
        lastEnd := (s.limitLeases v l).energy.lastEnd } := by
  induction l generalizing s with
  | nil => simp [State.limitLeases]
  | cons k t ih =>
    simp only [State.limitLeases]
    rw [ih, State.limitLease_energy]

theorem State.changeLevel_energy (s : State) (l : Level) :
    (s.changeLevel l).energy =
      { s.energy with
        level := some l
        domain := (s.changeLevel l).energy.domain
        lease := (s.changeLevel l).energy.lease
        lastEnd := (s.changeLevel l).energy.lastEnd } := by
  simp only [State.changeLevel, State.levelToTrigger_energy]
  rw [State.levelToThermal_energy, State.levelToTimebase_energy, State.levelDomains_energy]
  split
  · rw [State.limitLeases_energy]; simp
  · simp

theorem Energy.takeCapacity_level (e : Energy) (c : Nat) : (e.takeCapacity c).level = e.level := rfl

theorem Energy.fullTest_level (e : Energy) (b : Bool) : (e.fullTest b).level = e.level := by
  unfold Energy.fullTest; (repeat' split) <;> rfl

/-- The quantities of a measurement leave the level. -/
theorem State.measured_level (s : State) (v : Nat) (i : Int) : (s.measured v i).level = s.energy.level := by
  simp only [State.measured, Energy.estimate, Energy.fullTest_level, Energy.integrate, Energy.takeCapacity_level]

/-- The state of a measurement before its level is taken. -/
def State.metered (s : State) (v : Nat) (i : Int) : State :=
  { s with energy := { s.measured v i with v := some v, i := some i } }

/-- The level of a measurement. -/
def State.metLevel (s : State) (v : Nat) (i : Int) : Level := s.nextLevel s.energy.level ((s.measured v i).soc.getD 0) v

@[simp] theorem State.metered_tb (s : State) (v : Nat) (i : Int) : (s.metered v i).tb = s.tb := rfl
@[simp] theorem State.metered_front (s : State) (v : Nat) (i : Int) : (s.metered v i).front = s.front := rfl
@[simp] theorem State.metered_store (s : State) (v : Nat) (i : Int) : (s.metered v i).store = s.store := rfl
@[simp] theorem State.metered_pins (s : State) (v : Nat) (i : Int) : (s.metered v i).pins = s.pins := rfl
@[simp] theorem State.metered_thermal (s : State) (v : Nat) (i : Int) : (s.metered v i).thermal = s.thermal := rfl
@[simp] theorem State.metered_settings (s : State) (v : Nat) (i : Int) : (s.metered v i).settings = s.settings := rfl
@[simp] theorem State.metered_trig (s : State) (v : Nat) (i : Int) : (s.metered v i).trig = s.trig := rfl

theorem State.metered_energy (s : State) (v : Nat) (i : Int) :
    (s.metered v i).energy = { s.measured v i with v := some v, i := some i } := rfl

/-- R158, R162, R163, R180: a measurement leaves the level, changes it, or determines it and reports the charge source. -/
theorem State.measure_cases (s : State) (v : Nat) (i : Int) :
    (s.energy.level = some (s.metLevel v i) ∧ (s.measure v i) = (s.metered v i))
      ∨ (s.energy.level ≠ some (s.metLevel v i) ∧ s.energy.level ≠ none ∧ (s.measure v i) = (s.metered v i).changeLevel (s.metLevel v i))
      ∨ (s.energy.level = none
        ∧ (s.measure v i) = (((s.metered v i).changeLevel (s.metLevel v i)).sourceReport s.pins.source).chargeEnable) := by
  have e : (s.measure v i) =
      (let t := if s.energy.level = some (s.metLevel v i) then (s.metered v i) else (s.metered v i).changeLevel (s.metLevel v i)
        if s.energy.level.isNone then (t.sourceReport t.pins.source).chargeEnable else t) := rfl
  rw [e]
  cases h : s.energy.level with
  | none => right; right; simp
  | some l =>
    by_cases g : l = (s.metLevel v i)
    · left; simp [g]
    · right; left; simp [g]

/-- R158: a measurement writes the battery's quantities, the level and what a level brings. -/
theorem State.measure_energy (s : State) (v : Nat) (i : Int) :
    (s.measure v i).energy =
      { (s.metered v i).energy with
        level := some (s.metLevel v i)
        domain := (s.measure v i).energy.domain
        lease := (s.measure v i).energy.lease
        lastEnd := (s.measure v i).energy.lastEnd
        chargeEnable := (s.measure v i).energy.chargeEnable } := by
  rcases s.measure_cases v i with ⟨h, e⟩ | ⟨_, _, e⟩ | ⟨_, e⟩
  · rw [e, ← h]
    have := s.measured_level v i
    rw [← this]; rfl
  · rw [e, State.changeLevel_energy]
  · rw [e, State.chargeEnable_energy, State.sourceReport_energy, State.changeLevel_energy]

theorem State.measure_level (s : State) (v : Nat) (i : Int) : (s.measure v i).energy.level = some (s.metLevel v i) := by
  rw [State.measure_energy]

/-! ### Of the Timebase -/

/-- R14: what a session failure writes of the Timebase. -/
theorem State.failSession_tb (s : State) :
    s.failSession.tb =
      { s.tb with
        session := s.failSession.tb.session
        continuing := s.failSession.tb.continuing
        clock := s.failSession.tb.clock
        buffer := s.failSession.tb.buffer
        reference := s.failSession.tb.reference
        window := s.failSession.tb.window
        p := s.failSession.tb.p
        holdOffDue := s.failSession.tb.holdOffDue
        failures := s.failSession.tb.failures } := by
  simp only [State.failSession]
  split
  · simp
  · split <;> simp [State.request_gnss_false, Timebase.failed]

/-- R9, R164: of the Timebase a change of level writes no more than a session failure does, and nothing short of DORMANT. -/
theorem State.changeLevel_tb (s : State) (l : Level) :
    (s.changeLevel l).tb =
      { s.tb with
        session := (s.changeLevel l).tb.session
        continuing := (s.changeLevel l).tb.continuing
        clock := (s.changeLevel l).tb.clock
        buffer := (s.changeLevel l).tb.buffer
        reference := (s.changeLevel l).tb.reference
        window := (s.changeLevel l).tb.window
        p := (s.changeLevel l).tb.p
        holdOffDue := (s.changeLevel l).tb.holdOffDue
        failures := (s.changeLevel l).tb.failures } := by
  simp only [State.changeLevel, State.levelToTrigger_tb, State.levelToThermal_tb, State.levelToTimebase]
  split
  · rw [State.failSession_tb]
    simp only [State.levelDomains_tb, apply_ite State.tb, State.limitLeases_tb, State.postLevel_tb, State.raiseBoth_tb, ite_self]
  · simp only [State.levelDomains_tb, apply_ite State.tb, State.limitLeases_tb, State.postLevel_tb, State.raiseBoth_tb, ite_self]

theorem State.changeLevel_tb_of_ne {s : State} {l : Level} (h : l ≠ .dormant) : (s.changeLevel l).tb = s.tb := by
  simp only [State.changeLevel, State.levelToTrigger_tb, State.levelToThermal_tb, State.levelToTimebase, if_neg h]
  split <;> simp

/-- R158: of the Timebase a measurement writes no more than a session failure does. -/
theorem State.measure_tb (s : State) (v : Nat) (i : Int) :
    (s.measure v i).tb =
      { s.tb with
        session := (s.measure v i).tb.session
        continuing := (s.measure v i).tb.continuing
        clock := (s.measure v i).tb.clock
        buffer := (s.measure v i).tb.buffer
        reference := (s.measure v i).tb.reference
        window := (s.measure v i).tb.window
        p := (s.measure v i).tb.p
        holdOffDue := (s.measure v i).tb.holdOffDue
        failures := (s.measure v i).tb.failures } := by
  rcases s.measure_cases v i with ⟨_, e⟩ | ⟨_, _, e⟩ | ⟨_, e⟩
  · rw [e]; rfl
  · rw [e]; exact State.changeLevel_tb ..
  · rw [e, State.chargeEnable_tb, State.sourceReport_tb]; exact State.changeLevel_tb ..

theorem State.measure_tb_of_ne {s : State} {v : Nat} {i : Int} (h : (s.measure v i).energy.level ≠ some .dormant) : (s.measure v i).tb = s.tb := by
  have n : (s.metLevel v i) ≠ .dormant := fun e => h (by rw [State.measure_level, e])
  rcases s.measure_cases v i with ⟨_, e⟩ | ⟨_, _, e⟩ | ⟨_, e⟩
  · rw [e]; rfl
  · rw [e, State.changeLevel_tb_of_ne n]; rfl
  · rw [e, State.chargeEnable_tb, State.sourceReport_tb, State.changeLevel_tb_of_ne n]; rfl

/-! ### Of the front and the store -/

/-- Only SENSOR, leaving ON, reaches the front (R169). -/
theorem State.turnOff_front {s : State} {d : Domain} (h : d ≠ .sensor) : (s.turnOff d).front = s.front := by
  unfold State.turnOff
  split <;> try simp
  cases d <;> simp_all [State.leftOn]

theorem State.turnOff_store {s : State} {d : Domain} (h : d ≠ .sensor) : (s.turnOff d).store = s.store := by
  unfold State.turnOff
  split <;> try simp
  cases d <;> simp_all [State.leftOn]

theorem State.setRequest_front {s : State} {d : Domain} {b : Bool} (h : d ≠ .sensor ∨ b = true) :
    (s.setRequest d b).front = s.front := by
  unfold State.setRequest
  split
  · rfl
  · rcases h with h | h
    · split
      · simp
      · rw [State.turnOff_front h]; simp
    · simp [h]

theorem State.setRequest_store {s : State} {d : Domain} {b : Bool} (h : d ≠ .sensor ∨ b = true) :
    (s.setRequest d b).store = s.store := by
  unfold State.setRequest
  split
  · rfl
  · rcases h with h | h
    · split
      · simp
      · rw [State.turnOff_store h]; simp
    · simp [h]

theorem State.request_front {s : State} {d : Domain} {b : Bool} (h : d ≠ .sensor ∨ b = true) :
    (s.request d b).front = s.front := by
  unfold State.request State.followAux
  rw [State.setRequest_front (.inl (by simp)), State.setRequest_front h]

theorem State.request_store {s : State} {d : Domain} {b : Bool} (h : d ≠ .sensor ∨ b = true) :
    (s.request d b).store = s.store := by
  unfold State.request State.followAux
  rw [State.setRequest_store (.inl (by simp)), State.setRequest_store h]

@[simp] theorem State.moveHeater_front (s : State) (h : Heater) (x : HeaterState) : (s.moveHeater h x).front = s.front := by
  simp only [State.moveHeater]
  split
  · rw [State.request_front (.inl (by cases h <;> simp [Heater.domain]))]; simp
  · simp

@[simp] theorem State.moveHeater_store (s : State) (h : Heater) (x : HeaterState) : (s.moveHeater h x).store = s.store := by
  simp only [State.moveHeater]
  split
  · rw [State.request_store (.inl (by cases h <;> simp [Heater.domain]))]; simp
  · simp

@[simp] theorem State.evaluateHeater_front (s : State) (h : Heater) : (s.evaluateHeater h).front = s.front := by
  simp [State.evaluateHeater]

@[simp] theorem State.evaluateHeater_store (s : State) (h : Heater) : (s.evaluateHeater h).store = s.store := by
  simp [State.evaluateHeater]

@[simp] theorem State.endLease_front (s : State) (p : Port) (d : LeaseDomain) (r : EndReason) (q : Bool) :
    (s.endLease p d r q).front = s.front := by
  have n : d.domain ≠ .sensor := by cases d <;> simp [LeaseDomain.domain]
  cases q <;>
  · simp only [State.endLease]
    split
    · rfl
    · simp only [if_true, Bool.false_eq_true, if_false]
      split
      · simp
      · rw [State.request_front (.inl n)]
        try rfl

@[simp] theorem State.endLease_store (s : State) (p : Port) (d : LeaseDomain) (r : EndReason) (q : Bool) :
    (s.endLease p d r q).store = s.store := by
  have n : d.domain ≠ .sensor := by cases d <;> simp [LeaseDomain.domain]
  cases q <;>
  · simp only [State.endLease]
    split
    · rfl
    · simp only [if_true, Bool.false_eq_true, if_false]
      split
      · simp
      · rw [State.request_store (.inl n)]
        try rfl

@[simp] theorem State.limitLeases_front (s : State) (v : Level) (l : List (Port × LeaseDomain)) :
    (s.limitLeases v l).front = s.front := by
  induction l generalizing s with
  | nil => rfl
  | cons k t ih =>
    simp only [State.limitLeases, ih, State.limitLease]
    (repeat' split) <;> simp

@[simp] theorem State.limitLeases_store (s : State) (v : Level) (l : List (Port × LeaseDomain)) :
    (s.limitLeases v l).store = s.store := by
  induction l generalizing s with
  | nil => rfl
  | cons k t ih =>
    simp only [State.limitLeases, ih, State.limitLease]
    (repeat' split) <;> simp

/-- R164: a level short of DORMANT leaves the front. -/
theorem State.levelDomains_front_of_ne {s : State} {b : Option Level} {l : Level} (h : l ≠ .dormant) :
    (s.levelDomains b l).front = s.front := by
  simp only [State.levelDomains, if_neg h]
  split <;> simp [State.request_front, h]

theorem State.levelToTrigger_front_of_ne {s : State} {l : Level} (h : l ≠ .dormant) : (s.levelToTrigger l).front = s.front := by
  simp [State.levelToTrigger, h]

theorem State.changeLevel_front_of_ne {s : State} {l : Level} (h : l ≠ .dormant) : (s.changeLevel l).front = s.front := by
  simp only [State.changeLevel, State.levelToTrigger_front_of_ne h, State.levelToThermal, State.evaluateHeaters,
    State.evaluateHeater_front, State.levelToTimebase, if_neg h, State.levelDomains_front_of_ne h]
  split <;> simp

theorem State.measure_front_of_ne {s : State} {v : Nat} {i : Int} (h : (s.measure v i).energy.level ≠ some .dormant) : (s.measure v i).front = s.front := by
  have n : (s.metLevel v i) ≠ .dormant := fun e => h (by rw [State.measure_level, e])
  rcases s.measure_cases v i with ⟨_, e⟩ | ⟨_, _, e⟩ | ⟨_, e⟩
  · rw [e]; rfl
  · rw [e, State.changeLevel_front_of_ne n]; rfl
  · rw [e, State.chargeEnable_front, State.sourceReport, State.evaluateHeater_front, State.changeLevel_front_of_ne n]; rfl

/-- R164: a level short of DORMANT leaves the store. -/
theorem State.levelDomains_store_of_ne {s : State} {b : Option Level} {l : Level} (h : l ≠ .dormant) :
    (s.levelDomains b l).store = s.store := by
  simp only [State.levelDomains, if_neg h]
  split <;> simp [State.request_store, h]

theorem State.levelToTrigger_store_of_ne {s : State} {l : Level} (h : l ≠ .dormant) : (s.levelToTrigger l).store = s.store := by
  simp [State.levelToTrigger, h]

theorem State.changeLevel_store_of_ne {s : State} {l : Level} (h : l ≠ .dormant) : (s.changeLevel l).store = s.store := by
  simp only [State.changeLevel, State.levelToTrigger_store_of_ne h, State.levelToThermal, State.evaluateHeaters,
    State.evaluateHeater_store, State.levelToTimebase, if_neg h, State.levelDomains_store_of_ne h]
  split <;> simp

theorem State.measure_store_of_ne {s : State} {v : Nat} {i : Int} (h : (s.measure v i).energy.level ≠ some .dormant) : (s.measure v i).store = s.store := by
  have n : (s.metLevel v i) ≠ .dormant := fun e => h (by rw [State.measure_level, e])
  rcases s.measure_cases v i with ⟨_, e⟩ | ⟨_, _, e⟩ | ⟨_, e⟩
  · rw [e]; rfl
  · rw [e, State.changeLevel_store_of_ne n]; rfl
  · rw [e, State.chargeEnable_store, State.sourceReport, State.evaluateHeater_store, State.changeLevel_store_of_ne n]; rfl

end Sys2Proof.Machine
end

