-- ==== Sys2Proof/WellFormed.lean ====
section
/-! DEFINITION. When a command is one that the outside world can bring: the text of a line holds printable characters and no more
than the line buffer takes (R187, R188), and a line of the time message input holds no terminator (R212). -/

namespace Sys2Proof

/-- The length of the command word of each command line (9.5); 0 for a command that is no line with arguments. -/
def Instr.wordLength : Instr → Nat
  | .timeSet .. | .smpRead .. | .evtList .. | .evtRead .. | .wavRead .. | .alrPost .. | .alrList .. | .thmRead ..
  | .pwrRead .. | .attRead .. => 8
  | .timeRead .. | .trigRead .. | .alrFetch .. | .thmClear .. | .pwrLease .. | .pwrClear .. => 9
  | .wavStatus .. | .alrResult .. => 10
  | .evtRelease .. | .wavCapture .. | .thmAcquire .. | .pwrRelease .. => 11
  | .timeSession .. => 12
  | .setParam .. | .getParam .. => 3
  | .save .. => 4
  | .ident .. => 5
  | .restart .. => 7
  | .rollover .. | .timeMessage .. | .pps .. | .scheduleTimer | .holdOffDue | .sessionLimit | .settleTimer | .strobe ..
  | .digitizerFrame .. | .forcedClose | .captureBurst | .ringWrite | .readBurst .. | .transitTimerDue | .alertExpiry
  | .acquisitionTimer | .acquisitionComplete .. | .dwellTimer .. | .phaseTimer .. | .sequencerGrant
  | .powerGoodPresent .. | .powerGoodLost .. | .riseTimer .. | .leaseExpiry | .chargeSourceChange .. | .markedLine ..
  | .unknownCommandWord .. | .statusDigest .. | .lineDiscarded .. | .responseSent .. | .busyLineSent .. | .saveWriteEnd
  | .warmRestart .. | .resetInput .. | .coldStart | .characterReceived .. => 0

/-- The text after the command word of each command line; empty for a command that is no line with arguments. -/
def Instr.args : Instr → Text
  | .timeSet _ ⟨t, _⟩ | .timeSession _ t | .timeRead _ t | .smpRead _ t | .trigRead _ t | .evtList _ t | .evtRead _ t
  | .evtRelease _ t | .wavCapture _ t | .wavRead _ t | .wavStatus _ t | .alrFetch _ t | .alrResult _ t | .alrPost _ t
  | .alrList _ t | .thmAcquire _ t | .thmClear _ t | .thmRead _ t | .pwrLease _ t | .pwrRelease _ t | .pwrClear _ t
  | .pwrRead _ t | .attRead _ t | .setParam _ t | .getParam _ t | .save _ t | .ident _ t | .restart _ t => t
  | .rollover .. | .timeMessage .. | .pps .. | .scheduleTimer | .holdOffDue | .sessionLimit | .settleTimer | .strobe ..
  | .digitizerFrame .. | .forcedClose | .captureBurst | .ringWrite | .readBurst .. | .transitTimerDue | .alertExpiry
  | .acquisitionTimer | .acquisitionComplete .. | .dwellTimer .. | .phaseTimer .. | .sequencerGrant
  | .powerGoodPresent .. | .powerGoodLost .. | .riseTimer .. | .leaseExpiry | .chargeSourceChange .. | .markedLine ..
  | .unknownCommandWord .. | .statusDigest .. | .lineDiscarded .. | .responseSent .. | .busyLineSent .. | .saveWriteEnd
  | .warmRestart .. | .resetInput .. | .coldStart | .characterReceived .. => []

/-- The text after a command word: nothing, or a space and what follows it, all of it printable (R188, R189). -/
def argsFit (t : Text) : Bool :=
  (t.all fun c => decide (32 ≤ c.toNat) && decide (c.toNat ≤ 126))
    && match t with
      | [] => true
      | c :: _ => decide (c = ' ')

/-- The line of a command fits the line buffer (R187). -/
def Instr.lineFits (i : Instr) : Bool := argsFit i.args && decide (i.wordLength + i.args.length ≤ Config.lineLength)

/-- A line of the time message input holds no terminator (R212). -/
def Instr.messageFits : Instr → Bool
  | .timeMessage _ line _ => line.all fun b => !(decide (b.toNat = 13) || decide (b.toNat = 10))
  | _ => true

/-- A command the outside world can bring. The time messages and the lines are checked; every other operand is any value. -/
def Instr.wf (i : Instr) : Bool := i.lineFits && i.messageFits

end Sys2Proof
end

