-- ==== Sys2Proof/Laws/PerInstr.lean ====
section
/-! SUPPORT. What is shown command by command: the line of a command the outside world can bring fits the line buffer. -/

namespace Sys2Proof.Laws

open Sys2Proof

namespace LineFits

/-- R187: the command word and the text after it are at most 120 characters. -/
def Statement (i : Instr) : Prop := i.wf = true → i.wordLength + i.args.length ≤ 120

/-- The statement of any command, from its well-formedness. -/
theorem of_wf (i : Instr) : Statement i := by
  intro h
  simp only [Instr.wf, Instr.lineFits, Bool.and_eq_true, decide_eq_true_eq] at h
  exact h.1.2

theorem rollover (shown : Monitor) (first : List Due) : Statement (.rollover shown first) := of_wf _

theorem timeMessage (wait : Nat) (line : List Byte) (framing : Bool) : Statement (.timeMessage wait line framing) := of_wf _

theorem pps (pulse : Pulse) : Statement (.pps pulse) := of_wf _

theorem scheduleTimer : Statement (.scheduleTimer) := of_wf _

theorem holdOffDue : Statement (.holdOffDue) := of_wf _

theorem sessionLimit : Statement (.sessionLimit) := of_wf _

theorem timeSet (p : Port) (args : TimeLine) : Statement (.timeSet p args) := of_wf _

theorem timeSession (p : Port) (args : Text) : Statement (.timeSession p args) := of_wf _

theorem timeRead (p : Port) (args : Text) : Statement (.timeRead p args) := of_wf _

theorem settleTimer : Statement (.settleTimer) := of_wf _

theorem strobe (busy : Bool) : Statement (.strobe busy) := of_wf _

theorem digitizerFrame (bytes : List Byte) (framing : Bool) (busy : Bool) : Statement (.digitizerFrame bytes framing busy) := of_wf _

theorem smpRead (p : Port) (args : Text) : Statement (.smpRead p args) := of_wf _

theorem forcedClose : Statement (.forcedClose) := of_wf _

theorem trigRead (p : Port) (args : Text) : Statement (.trigRead p args) := of_wf _

theorem evtList (p : Port) (args : Text) : Statement (.evtList p args) := of_wf _

theorem evtRead (p : Port) (args : Text) : Statement (.evtRead p args) := of_wf _

theorem evtRelease (p : Port) (args : Text) : Statement (.evtRelease p args) := of_wf _

theorem wavCapture (p : Port) (args : Text) : Statement (.wavCapture p args) := of_wf _

theorem captureBurst : Statement (.captureBurst) := of_wf _

theorem ringWrite : Statement (.ringWrite) := of_wf _

theorem wavRead (p : Port) (args : Text) : Statement (.wavRead p args) := of_wf _

theorem readBurst (reqA : Bool) (reqB : Bool) : Statement (.readBurst reqA reqB) := of_wf _

theorem wavStatus (p : Port) (args : Text) : Statement (.wavStatus p args) := of_wf _

theorem alrFetch (p : Port) (args : Text) : Statement (.alrFetch p args) := of_wf _

theorem alrResult (p : Port) (args : Text) : Statement (.alrResult p args) := of_wf _

theorem transitTimerDue : Statement (.transitTimerDue) := of_wf _

theorem alertExpiry : Statement (.alertExpiry) := of_wf _

theorem alrPost (p : Port) (args : Text) : Statement (.alrPost p args) := of_wf _

theorem alrList (p : Port) (args : Text) : Statement (.alrList p args) := of_wf _

theorem acquisitionTimer : Statement (.acquisitionTimer) := of_wf _

theorem acquisitionComplete (vault : BitVec 12) (osc : BitVec 12) (batt : BitVec 12) (sensor : BitVec 12) : Statement (.acquisitionComplete vault osc batt sensor) := of_wf _

theorem thmAcquire (p : Port) (args : Text) : Statement (.thmAcquire p args) := of_wf _

theorem thmClear (p : Port) (args : Text) : Statement (.thmClear p args) := of_wf _

theorem thmRead (p : Port) (args : Text) : Statement (.thmRead p args) := of_wf _

theorem dwellTimer (h : Heater) : Statement (.dwellTimer h) := of_wf _

theorem phaseTimer (h : Heater) : Statement (.phaseTimer h) := of_wf _

theorem sequencerGrant : Statement (.sequencerGrant) := of_wf _

theorem powerGoodPresent (d : Domain) : Statement (.powerGoodPresent d) := of_wf _

theorem powerGoodLost (d : Domain) : Statement (.powerGoodLost d) := of_wf _

theorem riseTimer (d : Domain) : Statement (.riseTimer d) := of_wf _

theorem leaseExpiry : Statement (.leaseExpiry) := of_wf _

theorem chargeSourceChange (present : Bool) : Statement (.chargeSourceChange present) := of_wf _

theorem pwrLease (p : Port) (args : Text) : Statement (.pwrLease p args) := of_wf _

theorem pwrRelease (p : Port) (args : Text) : Statement (.pwrRelease p args) := of_wf _

theorem pwrClear (p : Port) (args : Text) : Statement (.pwrClear p args) := of_wf _

theorem pwrRead (p : Port) (args : Text) : Statement (.pwrRead p args) := of_wf _

theorem markedLine (p : Port) : Statement (.markedLine p) := of_wf _

theorem unknownCommandWord (p : Port) : Statement (.unknownCommandWord p) := of_wf _

theorem statusDigest (p : Port) : Statement (.statusDigest p) := of_wf _

theorem lineDiscarded (p : Port) : Statement (.lineDiscarded p) := of_wf _

theorem responseSent (p : Port) : Statement (.responseSent p) := of_wf _

theorem busyLineSent (p : Port) : Statement (.busyLineSent p) := of_wf _

theorem attRead (p : Port) (args : Text) : Statement (.attRead p args) := of_wf _

theorem setParam (p : Port) (args : Text) : Statement (.setParam p args) := of_wf _

theorem getParam (p : Port) (args : Text) : Statement (.getParam p args) := of_wf _

theorem save (p : Port) (args : Text) : Statement (.save p args) := of_wf _

theorem saveWriteEnd : Statement (.saveWriteEnd) := of_wf _

theorem ident (p : Port) (args : Text) : Statement (.ident p args) := of_wf _

theorem restart (p : Port) (args : Text) : Statement (.restart p args) := of_wf _

theorem warmRestart : Statement .warmRestart := of_wf _

theorem resetInput (asserted : Bool) : Statement (.resetInput asserted) := of_wf _

theorem coldStart : Statement (.coldStart) := of_wf _

theorem characterReceived (p : Port) (c : Byte) (r : Reception) : Statement (.characterReceived p c r) := of_wf _

end LineFits

end Sys2Proof.Laws
end

