-- ==== Sys2Proof/Tests/Slice0.lean ====
section
/-! SUPPORT. Small checks of the model: the well-formedness checks refuse what they should; values the manual's worked examples
state; and, for each statement of the obligations that has hypotheses, a state and operands that meet them (`witness_…`). -/

namespace Sys2Proof.Tests

set_option maxRecDepth 20000
set_option Elab.async false

open Sys2Proof Sys2Proof.Machine

/-! ### Well-formedness: each check refuses an ill-formed command -/

theorem test_wf_line : (Instr.timeRead .a []).wf = true := by decide

theorem test_wf_refuses_unprintable : (Instr.timeRead .a [' ', Char.ofNat 9]).wf = false := by decide

theorem test_wf_refuses_no_space : (Instr.timeRead .a ['x']).wf = false := by decide

theorem test_wf_refuses_long_line : (Instr.alrPost .a (List.replicate 113 ' ')).wf = false := by decide

theorem test_wf_takes_longest_line : (Instr.alrPost .a (List.replicate 112 ' ')).wf = true := by decide

theorem test_wf_refuses_terminator : (Instr.timeMessage 0 [84, 13] false).wf = false := by decide

/-! ### Worked examples of the manual -/

/-- The outcome's state, when it is one. -/
def after : Host.Outcome State Fault Refusal → State
  | .next t => t
  | _ => State.reset

/-- A second that ends with 13,000 mV and no current at the monitor, nothing taken first. -/
def noEnding : Ending := ⟨⟨13000, 0⟩, []⟩

/-- A state with one parameter written, as no SET would check it. -/
def withParam (s : State) (p : Param) (v : Int) : State :=
  { s with settings := { s.settings with working := s.settings.working.put p v } }

/-- 1.2.1: TC at −536 with E2 = 12,000 and E3 = 4,000. -/
theorem test_compensation :
    (withParam (withParam State.reset .timeComp2 12000) .timeComp3 4000).compensation (-536) = 6800 := by decide +kernel

/-- 8.1.1: 300,000,000 mAs at −25 °C is an SoC of 69, at −15 °C of 57. -/
theorem test_charge :
    ((State.reset.energy.estimate 1 (State.reset.derate 1) : Energy).usable = some 432000000)
    ∧ (({ State.reset.energy with charge := 300000000 } : Energy).estimate 1 60).soc = some 69
    ∧ (({ State.reset.energy with charge := 300000000 } : Energy).estimate 2 72).soc = some 57
    ∧ ({ value := some (-400), fault := false, faulty := 0, last := none } : ChanRec).derateEntry = 1 := by decide +kernel

/-- R204: smp.rate 30, 75 and 160; port.a.baud 100,000; trig.dc_shift 5 and −1. -/
theorem test_limits :
    Param.smpRate.limit 30 = 20 ∧ Param.smpRate.limit 75 = 50 ∧ Param.smpRate.limit 160 = 200
    ∧ Param.portABaud.limit 100000 = 115200 ∧ Param.trigDcShift.limit 5 = 8 ∧ Param.trigDcShift.limit (-1) = 0 := by decide

/-- R205: the rows of its table, on the default table. -/
theorem test_dependent_clamps :
    (let t := (Table.default.write .trigStaShift 8).1; t.get .trigStaShift = 8 ∧ t.get .trigLtaShift = 11)
    ∧ (let t := (Table.default.write .trigOff 60).1; t.get .trigOff = 60 ∧ t.get .trigOn = 61)
    ∧ (let t := (Table.default.write .thmHot 0).1; t.get .thmHot = 2 ∧ t.get .thmCool = 0)
    ∧ (let t := (Table.default.write .thmCool 70).1; t.get .thmCool = 68 ∧ t.get .thmHot = 70)
    ∧ (let t := (Table.default.write .pwrConserve 10).1;
        t.get .pwrConserve = 10 ∧ t.get .pwrCritical = 5 ∧ t.get .pwrDormant = 0)
    ∧ (let t := (Table.default.write .pwrDormant 80).1;
        t.get .pwrDormant = 80 ∧ t.get .pwrCritical = 85 ∧ t.get .pwrConserve = 90) := by decide +kernel

/-- R205: the answer to SET trig.off 60, from Port A. -/
theorem test_set_line :
    (after (exec (.setParam .a " trig.off 60".toList) State.reset)).port.a.line
      = "CLAMPED SET trig.off=60 trig.on=61".toList ++ crlf := by decide +kernel

/-- R203: the default routing sets. -/
theorem test_routing :
    (routed 4047 .alertWaiting, routed 4047 .restarted, routed 1343 .alertWaiting, routed 1343 .eventOpened)
      = (false, true, true, false) := by decide

/-- 9.4: after a cold start with no stored copy, Port A presents RESTARTED with STORE_DEFAULTED behind it. -/
theorem test_cold_start_attention :
    (after (exec (.attRead .a []) State.reset)).port.a.line = "OK ATT.READ cause=RESTARTED pending=1".toList ++ crlf := by
  decide +kernel

/-- The state after reset is the state a cold start gives, but for the count of cold starts. -/
theorem test_reset_is_cold_start : exec .coldStart State.reset = .next { State.reset with draws := 1 } := by
  have h : State.reset.coldStart = { State.reset with draws := 1 } := by decide +kernel
  exact congrArg Host.Outcome.next h

/-- R23, 1.7.2: the class at U = 10,000, 10,002 and 1,000,004 ns. -/
theorem test_class :
    (({ Timebase.cold with clock := .holdover, u16 := 160000 } : Timebase).cls,
      ({ Timebase.cold with clock := .holdover, u16 := 160032 } : Timebase).cls,
      ({ Timebase.cold with clock := .holdover, u16 := 16000064 } : Timebase).cls) = (.fine, .milli, .coarse) := by decide

/-- The detector settings of 3.4. -/
def burst : State :=
  withParam (withParam (withParam (withParam (withParam State.reset .trigDcShift 0) .trigStaShift 3) .trigLtaShift 7)
    .trigLtaFloor 4) .trigOn 40

/-- 3.4: sets 1 and 2 of the burst on Z. -/
theorem test_burst :
    let c : Comp := { Comp.cold with state := .quiet, sta := 2560, lta := 2560, firstPending := false }
    let m : Mark := ⟨500001, ⟨0, 100000, .lock⟩⟩
    let a := (burst.processComp m 100 c).1
    let b := (burst.processComp m 100 a).1
    (a.sta, a.lta, a.q, a.state) = (5440, 2740, some 31, .quiet)
    ∧ (b.sta, b.lta, b.q, b.state) = (7960, 2918, some 43, .arming) := by decide +kernel

/-- 11.3.1: the bytes of a set. -/
theorem test_set_bytes :
    (SetRec.bytes ⟨993741, ⟨1734021557, 3400000, .fine⟩, ⟨-2, 15, 0⟩, false, ⟨true, false, false⟩, true, false⟩).map
      (fun b => b.toNat)
      = [0, 0, 15, 41, 205, 0, 103, 91, 17, 181, 51, 225, 64, 1, 18, 255, 255, 254, 0, 0, 15, 0, 0, 0] := by decide +kernel

/-- R213: the stamp 1734021557.0200000/LOCK and the qualified cause DOMAIN_FAULT/GNSS. -/
theorem test_forms :
    stampText ⟨1734021557, 200000, .lock⟩ = "1734021557.0200000/LOCK".toList
    ∧ (Cause.domainFault .gnss).text = "DOMAIN_FAULT/GNSS".toList := by decide +kernel

/-- R188: a tab makes the line BAD. -/
theorem test_tab : (after (exec (.characterReceived .b 9 ⟨false, noEnding⟩) State.reset)).port.b.bad = true := by decide +kernel

/-- R189: time.read in lower case is UNKNOWN. -/
theorem test_case_counts :
    (readLine noEnding .a "time.read".toList State.reset).port.a.line = "UNKNOWN".toList ++ crlf := by decide +kernel

/-! ### Witnesses: states that meet the hypotheses of the statements -/

/-- Port A takes a line after reset. -/
theorem takes_reset : State.reset.Takes .a := ⟨rfl, rfl⟩

/-- The state after reset with one command waiting. -/
def queued : State := { State.reset with pending := [.captureBurst] }

theorem witness_StepTakesFront : State.reset.pending = [] := rfl

theorem witness_StepKeepsClock : ClockInv queued ∧ ∃ t, step queued = .next t := ⟨by unfold ClockInv; decide, _, rfl⟩

theorem witness_StepKeepsStation : TriggerInv queued ∧ ∃ t, step queued = .next t :=
  ⟨⟨by decide, by decide⟩, _, rfl⟩

theorem port_inv (r : PortRec) (h : r = State.reset.port.a ∨ r = State.reset.port.b) : PortInv r := by
  rcases h with rfl | rfl
  · exact ⟨by decide, by decide, by decide, by decide, by decide, by decide⟩
  · exact ⟨by decide, by decide, by decide, by decide, by decide, by decide⟩

theorem witness_StepKeepsPorts : PortInv queued.port.a ∧ PortInv queued.port.b ∧ ∃ t, step queued = .next t :=
  ⟨port_inv _ (.inl rfl), port_inv _ (.inr rfl), _, rfl⟩

theorem request_inv (s : State) (h : s.energy = State.reset.energy) (k : s.thermal = State.reset.thermal)
    (l : s.tb.session = .idle) : RequestInv s := by
  constructor <;> simp only [h, k, l]
  · decide
  · constructor
    · intro e; exact absurd e (by decide)
    · rintro ⟨l, e, _⟩; exact absurd e (by simp [State.reset, Energy.cold])
  · decide
  · decide
  · decide
  · decide
  · decide

theorem switch_inv (s : State) (h : s.energy = State.reset.energy) : SwitchInv s := by
  have d : ∀ e, s.dom e = ⟨.off, false, none⟩ := by intro e; unfold State.dom; rw [h]; cases e <;> rfl
  constructor
  · intro a b e; rw [d] at e; cases e
  · intro e; rw [h] at e; exact absurd e (by decide)
  · intro e; rw [h] at e; exact absurd e (by decide)
  · intro a _; exact .inl (by rw [d])
  · intro a _; exact .inl (by rw [d])

theorem witness_StepKeepsDomains : RequestInv queued ∧ SwitchInv queued ∧ ∃ t, step queued = .next t :=
  ⟨request_inv _ rfl rfl rfl, switch_inv _ rfl, _, rfl⟩

theorem count_inv (s : State) (h : s.cat = State.reset.cat) (k : s.alerts = State.reset.alerts)
    (l : s.front.ring.length ≤ 16384) (m : s.store.jobs = []) : CountInv s := by
  constructor
  · rw [h]; decide
  · rw [k]; decide
  · exact l
  · rw [h]; decide
  · rw [k]; decide
  · rw [m]; decide
  · rw [m]; simp
  · rw [k]; decide

/-- An event in progress: its OPEN record and the EVENT job that writes block 5 for it, another record with block 7, an alert, and
a burst waiting to be commanded. -/
def eventful : State :=
  { State.reset with
    pending := [.captureBurst]
    trig :=
      { Trigger.cold false with
        station := .active, causes := ⟨false, false, false⟩
        event :=
          some ⟨some 9, ⟨0, ⟨0, 0, .none⟩⟩, 0, 0, ⟨true, false, false⟩, ⟨true, false, false⟩, ⟨1, 0, 0⟩, ⟨1, 0, 0⟩, false,
            false⟩ }
    cat :=
      ⟨[{ manualRecord 0 1 none 7 with capture := .complete, blocks := [⟨7, []⟩] },
        { manualRecord 0 1 none 9 with kind := .event, state := .opened, capture := .running }], 9⟩
    store :=
      { Store.cold with
        free := (List.range 96).filter fun b => b ≠ 5 ∧ b ≠ 7
        jobs := [⟨0, .event, 9, 0, 0, none, some ⟨5, []⟩, 0, false, .copying⟩] }
    alerts :=
      { AlertQueue.cold with
        alerts := [⟨3, some .step, .notable, ⟨0, 0, .none⟩, 0, 900, 0, none, 0, none, none, none, [], 0⟩]
        nextJoin := 1, lastId := 3 } }

theorem eventful_invariants :
    CountInv eventful ∧ QueueInv eventful ∧ BlockInv eventful ∧ TriggerInv eventful ∧ OpenInv eventful :=
  ⟨⟨by decide, by decide, by decide, by decide, by decide, by decide, by decide, by decide⟩,
    ⟨by decide, by decide, by decide, by decide⟩,
    ⟨by decide +kernel, by decide, by decide +kernel, by decide, by decide +kernel⟩, ⟨by decide, by decide⟩,
    by unfold OpenInv; decide +kernel⟩

theorem witness_StepKeepsCounts :
    CountInv eventful ∧ QueueInv eventful ∧ BlockInv eventful ∧ TriggerInv eventful ∧ OpenInv eventful
    ∧ ∃ t, step eventful = .next t :=
  ⟨eventful_invariants.1, eventful_invariants.2.1, eventful_invariants.2.2.1, eventful_invariants.2.2.2.1,
    eventful_invariants.2.2.2.2, _, rfl⟩

theorem table_default : TableInv Table.default :=
  ⟨by decide, by intro p; cases p <;> decide, by decide +kernel⟩

theorem witness_StepKeepsSettings : SettingsInv queued.settings ∧ ∃ t, step queued = .next t :=
  ⟨⟨table_default, (by intro u h; cases h), (by intro h; cases h), (by intro h; exact absurd rfl h)⟩, _, rfl⟩

/-- A part whose stored copy is valid. -/
def saved : State :=
  { State.reset with settings := ⟨Table.default, Table.default, true, Config.sumCheck Table.default, none⟩ }

theorem witness_ColdStartSettings :
    State.reset.settings.marker = false
    ∧ saved.settings.marker = true ∧ saved.settings.saving = none
    ∧ saved.settings.sum = Config.sumCheck saved.settings.stored ∧ TableInv saved.settings.stored :=
  ⟨rfl, rfl, rfl, rfl, table_default⟩

theorem witness_RolloverEndsSecond :
    (after (exec (.rollover noEnding.shown noEnding.first) State.reset)).energy.level ≠ some .dormant
    ∧ (∀ d : Due, d ∉ noEnding.first) ∧ ∃ s : State, s.tb.clock = .holdover :=
  ⟨by decide +kernel, fun _ => List.not_mem_nil, { State.reset with tb := { Timebase.cold with clock := .holdover } }, rfl⟩

theorem witness_TimeMessageTaken : (1734021557 : Nat) < 1099511627776 ∧ 99 ≤ 99 := by decide

/-- R212: the line TT 1734021557 V 7. -/
theorem test_time_message :
    timeMessageOf ("TT 1734021557 V 7".toList.map fun c => BitVec.ofNat 8 c.toNat) false 9
      = some ⟨1734021557, true, 7, 9⟩ := by decide +kernel

/-! #### Pairs -/

/-- A session with a message for the second 100 in the buffer, half a second old, and a reading of `raw`. -/
def session (k : Session) (c : ClockState) (raw good outliers : Nat) : State :=
  { State.reset with
    tb :=
      { Timebase.cold with
        session := k, clock := c, seconds := 100, raw := raw, osc := 500000, buffer := some ⟨100, true, 4, 0⟩,
        goodCount := good, outlierCount := outliers } }

theorem session_pairs (k : Session) (c : ClockState) (raw good outliers : Nat) :
    ((session k c raw good outliers).elapse 0).Pairs ⟨100, true, 4, 0⟩ :=
  ⟨⟨rfl, rfl, (show State.reset.paramN .timeMinSats ≤ 4 by decide +kernel), by simp [session, State.elapse]⟩,
    by intro r h; cases h⟩

theorem session_within :
    ((session .tracking .locked 1000 0 0).elapse 0).Within ⟨100, true, 4, 0⟩
    ∧ ¬ ((session .tracking .locked 1001 0 0).elapse 0).Within ⟨100, true, 4, 0⟩
    ∧ ((session .seeking .holdover 1000 7 0).elapse 0).Within ⟨100, true, 4, 0⟩ := by
  refine ⟨⟨by decide +kernel, by decide +kernel⟩, fun h => ?_, ⟨by decide +kernel, by decide +kernel⟩⟩
  exact absurd h.2 (by decide +kernel)

/-- The session of `session`, the message not following the one before. -/
def broken : State :=
  { session .seeking .holdover 0 0 0 with tb := { (session .seeking .holdover 0 0 0).tb with reference := some 98 } }

/-- A session with no message. -/
def deaf (k : Session) (missing : Nat) : State :=
  { State.reset with tb := { Timebase.cold with session := k, clock := .locked, missingCount := missing } }

theorem deaf_invalid (k : Session) (n : Nat) (m : Message) : ¬ ((deaf k n).elapse 0).ValidFor m := by
  intro h; cases h.held

theorem witness_PpsSeeking :
    State.reset.tb.session = .idle
    ∧ ((deaf .seeking 0).tb.session = .seeking ∧ ∀ m, ¬ ((deaf .seeking 0).elapse 0).ValidFor m)
    ∧ (broken.tb.session = .seeking ∧ (broken.elapse 0).ValidFor ⟨100, true, 4, 0⟩
        ∧ ¬ (broken.elapse 0).Pairs ⟨100, true, 4, 0⟩)
    ∧ (((session .seeking .unset 0 6 0).elapse 0).Pairs ⟨100, true, 4, 0⟩
        ∧ (session .seeking .unset 0 6 0).tb.goodCount + 1 < (session .seeking .unset 0 6 0).paramN .timeAcqPairs)
    ∧ (((session .seeking .holdover 1000 7 0).elapse 0).Pairs ⟨100, true, 4, 0⟩
        ∧ (session .seeking .holdover 1000 7 0).paramN .timeAcqPairs ≤ 7 + 1
        ∧ ((session .seeking .holdover 1000 7 0).elapse 0).Within ⟨100, true, 4, 0⟩) := by
  refine ⟨rfl, ⟨rfl, deaf_invalid _ _⟩, ⟨rfl, ⟨rfl, rfl, by decide +kernel, by decide⟩, fun h => ?_⟩,
    ⟨session_pairs _ _ _ _ _, by decide +kernel⟩, session_pairs _ _ _ _ _, by decide +kernel, session_within.2.2⟩
  exact absurd (h.follows 98 rfl) (by decide)

theorem witness_PpsSetsTime :
    (((session .seeking .unset 0 7 0).elapse 0).Pairs ⟨100, true, 4, 0⟩
        ∧ (session .seeking .unset 0 7 0).paramN .timeAcqPairs ≤ 7 + 1)
    ∧ ((session .tracking .locked 1001 0 2).elapse 0).Pairs ⟨100, true, 4, 0⟩
    ∧ ¬ ((session .tracking .locked 1001 0 2).elapse 0).Within ⟨100, true, 4, 0⟩
    ∧ (after (exec (.pps ⟨0, noEnding⟩) (session .seeking .unset 0 7 0))).energy.level ≠ some .dormant := by
  refine ⟨⟨session_pairs _ _ _ _ _, by decide +kernel⟩, session_pairs _ _ _ _ _, fun h => ?_, by decide +kernel⟩
  exact absurd h.2 (by decide +kernel)

/-- R17, R82: a pair two seconds ahead, at the third outlier, steps the OPEN record and posts STEP. -/
theorem test_step_told :
    let s := session .tracking .locked 0 0 2
    let far : State :=
      { s with
        tb := { s.tb with seconds := 98 }
        cat := ⟨[{ manualRecord 0 1 none 7 with kind := .event, state := .opened, stepTotal := some 5 }], 7⟩ }
    let t := after (exec (.pps ⟨0, noEnding⟩) far)
    (t.cat.records.map fun x => (x.flags.stepped, x.stepTotal)) = [(true, some 20000005)]
    ∧ .step ∈ t.alerts.alerts.filterMap fun x => x.cause := by decide +kernel

theorem witness_PpsDisciplines :
    ((session .tracking .locked 1000 0 0).elapse 0).Pairs ⟨100, true, 4, 0⟩
    ∧ ((session .tracking .locked 1000 0 0).elapse 0).Within ⟨100, true, 4, 0⟩
    ∧ (session .tracking .locked 1000 0 0).tb.settleCount + 1 < State.reset.paramN .timeSettlePairs
    ∧ ¬ 63 + 1 < State.reset.paramN .timeSettlePairs
    ∧ (session .tracking .locked 1000 0 0).tb.continuing = false := by
  exact ⟨session_pairs _ _ _ _ _, session_within.1, by decide +kernel, by decide +kernel, rfl⟩

/-- R21: a session that continues from an earlier pair is checked at every good pair, whatever its settle count and the setting
are now. -/
theorem test_continuing_ends :
    let s := session .tracking .locked 0 0 0
    (after (exec (.pps ⟨0, noEnding⟩) { s with tb := { s.tb with continuing := true } })).tb.session = .idle
    ∧ (after (exec (.pps ⟨0, noEnding⟩) s)).tb.session = .tracking := by decide +kernel

theorem witness_PpsSetAside :
    (((session .tracking .locked 1001 0 0).elapse 0).Pairs ⟨100, true, 4, 0⟩
        ∧ ¬ ((session .tracking .locked 1001 0 0).elapse 0).Within ⟨100, true, 4, 0⟩)
    ∧ ((∀ m, ¬ ((deaf .tracking 8).elapse 0).Pairs m) ∧ ∀ m, ¬ ((deaf .tracking 8).elapse 0).ValidFor m)
    ∧ (∀ m, ¬ ((deaf .tracking 9).elapse 0).Pairs m) ∧ ∀ m, ¬ ((deaf .tracking 9).elapse 0).ValidFor m :=
  ⟨⟨session_pairs _ _ _ _ _, session_within.2.1⟩,
    ⟨fun m h => deaf_invalid _ _ m h.valid, deaf_invalid _ _⟩, fun m h => deaf_invalid _ _ m h.valid, deaf_invalid _ _⟩

/-- A session whose limit has passed. -/
def late : State := { State.reset with tb := { Timebase.cold with session := .powering, uptime := 1200, failures := 2 } }

theorem witness_SessionLimitFails :
    ClockInv late ∧ late.tb.session = .powering
    ∧ late.tb.sessionStart + late.paramN .timeSessionLimit ≤ late.tb.uptime := by
  refine ⟨by unfold ClockInv; decide, rfl, by decide +kernel⟩

theorem witness_TimeSessionAnswers : State.reset.Takes .a ∧ tokens [] = [] := ⟨takes_reset, rfl⟩

theorem witness_TimeSetSetsClock :
    State.reset.Takes .a ∧ numberArgs (tokens " 100 9999999 500".toList) = some [100, 9999999, 500]
    ∧ numberArgs (tokens " 100 10000000 500".toList) = some [100, 10000000, 500]
    ∧ (session .seeking .unset 0 0 0).Takes .a := ⟨takes_reset, by decide +kernel, by decide +kernel, rfl, rfl⟩

/-! #### The front and the station -/

/-- A front in one state. -/
def fronted (k : FrontState) : State :=
  { State.reset with
    front := { Front.cold 100 with state := k, settleDue := if k = .settling then some 0 else none } }

theorem witness_SettleTimerStartsFront :
    (fronted .settling).front.state = .settling ∧ (fronted .settling).front.settleDue = some 0
    ∧ 0 ≤ (fronted .settling).tb.uptime ∧ (fronted .running).front.state ≠ .settling := by decide

/-- A strobe that waits for its frame. -/
def struck : State :=
  { fronted .running with
    front := { (fronted .running).front with outstanding := some ⟨0, ⟨0, 0, .none⟩, 1, false⟩ } }

theorem witness_StrobeIssued :
    (fronted .running).front.rate ∈ [20, 40, 50, 100, 200] ∧ (fronted .running).front.state = .running
    ∧ max 0 ((0 + 100000 - 1) / 100000) < (fronted .running).front.rate ∧ 0 < (fronted .running).tb.endAt
    ∧ (fronted .running).front.outstanding = none ∧ (fronted .running).front.waiting = none
    ∧ struck.front.outstanding = some ⟨0, ⟨0, 0, .none⟩, 1, false⟩ ∧ struck.front.waiting = none
    ∧ State.reset.front.state = .stopped := by decide

theorem witness_FrameCompletesSet :
    State.reset.front.outstanding = none ∧ struck.front.outstanding = some ⟨0, ⟨0, 0, .none⟩, 1, false⟩
    ∧ struck.front.waiting = none := by decide

/-- A set with 100 counts on Z. -/
def set0 : SetRec := ⟨0, ⟨0, 0, .none⟩, ⟨100, 0, 0⟩, false, noAxis, false, false⟩

/-- A set whose write waits, with the station in one state and every component alike. -/
def writing (k : Station) (event : Option EventCtx) (c : Comp) : State :=
  { fronted .running with
    front := { (fronted .running).front with waiting := some set0 }
    trig :=
      { Trigger.cold false with
        station := k, causes := ⟨false, k = .suspended, false⟩, event := event, comp := ⟨c, c, c⟩ } }

/-- A ring that is full, and the next set, whose write overwrites the set that the job of `eventful` needs. -/
def lapping : State :=
  { eventful with
    front :=
      { (fronted .running).front with ring := List.replicate 16384 set0, waiting := some { set0 with index := 16384 } } }

theorem witness_ComponentsProcess_laps :
    CountInv lapping ∧ BlockInv lapping ∧ 16384 ≤ lapping.front.ring.length
    ∧ (∀ j ∈ lapping.store.jobs, j.next = idxSub 16384 16384 ∧ j.done = false) :=
  ⟨{ eventful_invariants.1 with ring := (List.length_replicate (n := 16384) (a := set0)).le },
    ⟨eventful_invariants.2.2.1.blocks, eventful_invariants.2.2.1.released, eventful_invariants.2.2.1.owner,
      eventful_invariants.2.2.1.oneJob, eventful_invariants.2.2.1.running⟩,
    (List.length_replicate (n := 16384) (a := set0)).ge, by decide⟩

theorem witness_ComponentsProcess :
    State.reset.front.waiting = none ∧ (writing .quiet none Comp.cold).front.waiting = some set0
    ∧ (writing .quiet none Comp.cold).front.state = .running ∧ set0.missing = false ∧ set0.blanked = false
    ∧ Comp.cold.firstPending = true ∧ ({ Comp.cold with firstPending := false } : Comp).firstPending = false
    ∧ (writing .suspended none Comp.cold).trig.station = .suspended := by decide

/-- An event in progress. -/
def ctx : EventCtx :=
  ⟨none, ⟨0, ⟨0, 0, .none⟩⟩, 0, 0, ⟨true, false, false⟩, ⟨true, false, false⟩, ⟨1, 0, 0⟩, ⟨1, 0, 0⟩, false, false⟩

theorem witness_StationFollowsVote :
    TriggerInv (writing .quiet none Comp.cold) ∧ TriggerInv (writing .active (some ctx) Comp.cold)
    ∧ TriggerInv (writing .post (some ctx) Comp.cold) ∧ set0.missing = false
    ∧ (writing .post (some ctx) Comp.cold).front.waiting = some set0 :=
  ⟨⟨by decide, by decide⟩, ⟨by decide, by decide⟩, ⟨by decide, by decide⟩, rfl, rfl⟩

/-- A component that is TRIGGERED, and stays so at a set of 100 counts. -/
def firm : Comp := { Comp.cold with state := .triggered, firstPending := false, lta := 256, onset := some ⟨0, ⟨0, 0, .none⟩⟩ }

/-- The station before a set that opens an event, with a table of jobs and alr.routine 1. -/
def opening (jobs : List Job) : State :=
  withParam { writing .quiet none firm with store := { Store.cold with jobs := jobs } } .alrRoutine 1

/-- An entry of the job table, waiting for data. -/
def entry (k : Kind) (n : Nat) : Job := ⟨n, k, 20 + n, 9, 9, none, none, 0, false, .waitingData⟩

/-- R59, R78, R97, R98, R123: what an opening makes of the table of jobs and of the queue. -/
theorem test_opening :
    (let t := after (exec .ringWrite (opening []));
      t.trig.station = .active ∧ (t.trig.event.map fun c => c.record) = some (some 1)
      ∧ (t.cat.records.map fun x => (x.id, x.state, x.capture, x.openIndex)) = [(1, .opened, .running, some 0)]
      ∧ (t.store.jobs.map fun j => (j.record, j.kind)) = [(1, .event)]
      ∧ (t.alerts.alerts.map fun y => (y.cause, y.event)) = [(none, some 1)])
    ∧ (let t := after (exec .ringWrite (opening [entry .event 0, entry .manual 1, entry .event 2, entry .event 3]));
      t.store.jobs.map fun j => (j.number, j.record)) = [(0, 20), (2, 22), (3, 23), (1, 1)]
    ∧ (let t := after (exec .ringWrite (opening [entry .event 0, entry .event 1, entry .event 2, entry .event 3]));
      t.cat.records.map fun x => (x.capture, x.flags.noCapture)) = [(.none, true)] := by decide +kernel

theorem witness_StationFollowsVote_opens :
    TriggerInv (opening []) ∧ CountInv (opening []) ∧ BlockInv (opening [])
    ∧ (opening []).Unlapped set0 ∧ (opening []).alerts.alerts.length + 3 ≤ 16 ∧ (opening []).paramN .alrEarly = 1
    ∧ (opening []).Qualifies .routine :=
  ⟨⟨by decide, by decide⟩, count_inv _ rfl rfl (by decide) rfl,
    ⟨by decide +kernel, by decide, by decide, by decide, by decide⟩, .inl (by decide), by decide, by decide +kernel,
    .inr (by decide +kernel)⟩

/-- R63, R124: the end of the post-roll queues the final summary, one revision after the one delivered. -/
theorem test_post_ends :
    let s := writing .post (some ctx) Comp.cold
    let t := after (exec .ringWrite { s with alerts := { s.alerts with track := some ⟨none, .delivered 2⟩ } })
    t.trig.station = .quiet ∧ t.trig.event = none ∧ t.alerts.track = none
    ∧ (t.alerts.alerts.map fun y => y.quake.map fun q => (q.final, q.revision)) = [some (true, 3)] := by decide +kernel

theorem witness_ForcedCloseEndsEvent :
    State.reset.trig.event = none ∧ (writing .active (some ctx) Comp.cold).trig.event = some ctx
    ∧ ¬ ctx.openUptime + State.reset.paramN .trigMaxDuration ≤ State.reset.tb.uptime
    ∧ ctx.openUptime + State.reset.paramN .trigMaxDuration ≤ 900 := by decide +kernel

/-! #### The catalogue and the store -/

/-- A CLOSED record that holds one block of one set. -/
def record0 : Record :=
  { manualRecord 0 1 none 7 with capture := .complete, blocks := [⟨5, [set0]⟩] }

/-- A job that copies into a block holding the sets given, up to the end index given. -/
def job0 (k : JobState) (b : Option Block) (stop : Option Nat) (posted : Nat) : Job :=
  ⟨0, .event, 7, 0, 0, stop, b, posted, false, k⟩

/-- A store with one record, one set in the ring and the jobs given. -/
def stored (jobs : List Job) (free : List Nat) : State :=
  { State.reset with
    cat := ⟨[record0], 7⟩
    store := { Store.cold with jobs := jobs, free := free }
    front := { Front.cold 100 with ring := [set0], sampleIndex := 1 } }

theorem count_inv_stored (k : JobState) (b : Option Block) (stop : Option Nat) (posted : Nat) (free : List Nat) :
    CountInv (stored [job0 k b stop posted] free) :=
  ⟨by simp [stored, Config.catalogueSlots], by simp [stored, State.reset, AlertQueue.cold], by simp [stored, Config.ringLength],
    by simp [stored], by simp [stored, State.reset, AlertQueue.cold], by simp [stored],
    by simp [stored, job0, Config.jobEntries], by simp [stored, State.reset, AlertQueue.cold]⟩

theorem witness_AssignedIdsAreFree : CountInv State.reset := count_inv _ rfl rfl (by decide) rfl

theorem witness_EvtReleaseFreesBlocks :
    (stored [] [1]).Takes .a ∧ numberArgs (tokens " 7".toList) = some [7]
    ∧ (stored [] [1]).cat.records.find? (fun r => decide (r.id = (7 : Int).toNat)) = some record0
    ∧ record0.state = .closed ∧ record0.capture = .complete ∧ record0.pins = 0
    ∧ (∀ j ∈ (stored [] [1]).store.jobs, j.state ≠ .waitingBlock)
    ∧ (stored [job0 .waitingBlock none none 0] []).store.jobs = [job0 .waitingBlock none none 0]
    ∧ (job0 .waitingBlock none none 0).available (stored [job0 .waitingBlock none none 0] []).front = true
    ∧ (stored [job0 .waitingBlock none none 0] []).store.free = [] ∧ record0.blocks = ⟨5, [set0]⟩ :: [] := by
  refine ⟨⟨rfl, rfl⟩, by decide +kernel, by decide, rfl, rfl, rfl, by decide, rfl, by decide, rfl, rfl⟩

theorem witness_WavCaptureMakesJob :
    State.reset.Takes .a ∧ numberArgs (tokens " 0 10".toList) = some [0, 10]
    ∧ idxLt 0 State.reset.front.oldestIdx = false
    ∧ idxLt (idxAdd State.reset.front.newestIdx 8192) (idxAdd 0 9) = false
    ∧ idxLt (idxAdd State.reset.front.newestIdx 8192) (idxAdd 0 8191) = false
    ∧ idxLt (idxAdd State.reset.front.newestIdx 8192) (idxAdd 0 8192) = true
    ∧ State.reset.store.jobs = [] ∧ State.reset.cat.records = [] ∧ State.reset.front.newest = none
    ∧ (stored [] [1]).front.newest = some 0 ∧ idxLe 0 0 = true := by
  refine ⟨takes_reset, by decide +kernel, by decide, by decide, by decide, by decide, rfl, rfl, rfl, rfl, by decide⟩

theorem witness_CaptureBurstCopies :
    (∀ j ∈ State.reset.store.jobs, j.state ≠ .copying)
    ∧ (∀ stop posted b, CountInv (stored [job0 .copying (some b) stop posted] [1]))
    ∧ (stored [job0 .copying (some ⟨5, []⟩) (some 0) 0] [1]).front.waiting = none
    ∧ (stored [job0 .copying (some ⟨5, []⟩) (some 0) 0] [1]).front.newest = some 0
    ∧ idxSub 0 0 + 1 = 1 ∧ idxLt 0 (idxAdd 0 1) = true ∧ idxLt 5 (idxAdd 0 1) = false
    ∧ (List.replicate 2047 set0 ++ [set0]).length = 2048 ∧ min 64 (2048 - 2047) = 1
    ∧ ({ job0 .copying none none 0 with next := 1 } : Job).available (stored [] [1]).front = false :=
  ⟨by decide, fun _ _ _ => count_inv_stored _ _ _ _ _, rfl, rfl, by decide, by decide, by decide, by simp, rfl, by decide⟩

/-- A full ring position behind which one more set stands, so that a job has a set after its burst. -/
theorem witness_CaptureBurstCopies_more :
    ({ job0 .copying none none 0 with next := 64 } : Job).available
      { Front.cold 100 with ring := [{ set0 with index := 64 }] } = true := by decide

theorem witness_WavReadBegins :
    (stored [] [1]).Takes .a ∧ numberArgs (tokens " 7 0 0 256".toList) = some [7, 0, 0, 256] :=
  ⟨⟨rfl, rfl⟩, by decide +kernel⟩

/-- A store that both ports read. -/
def shared (last : Port) : State :=
  { stored [] [1] with store := { (stored [] [1]).store with reads := ⟨some ⟨7, 0, 0, 1⟩, some ⟨7, 0, 0, 65⟩⟩, lastServed := last } }

/-- A store whose record Port A has read to its last set, which is still being sent. -/
def passed : State :=
  { shared .a with
    store := { (shared .a).store with reads := ⟨some ⟨7, 0, 1, 0⟩, none⟩ }
    cat := ⟨[{ record0 with pins := 1 }], 7⟩
    port := ⟨{ State.reset.port.a with state := .responding }, State.reset.port.b⟩ }

theorem witness_ReadBurstsAlternate :
    State.reset.front.waiting = none ∧ (∀ j ∈ (shared .b).store.jobs, j.state ≠ .copying)
    ∧ (shared .b).store.reads.get .a = some ⟨7, 0, 0, 1⟩ ∧ (shared .b).store.lastServed = Port.other .a
    ∧ (shared .a).store.reads.get .b = some ⟨7, 0, 0, 65⟩ ∧ (shared .a).store.lastServed = Port.other .b
    ∧ (shared .b).cat.records.find? (fun x => decide (x.id = 7)) = some record0
    ∧ record0.blocks[0]? = some ⟨5, [set0]⟩
    ∧ passed.store.reads.get .a = some ⟨7, 0, 1, 0⟩ ∧ passed.store.reads.get .b = none := by decide

/-- R109, R191, 11.3.1: the last burst leaves the read and its pin; at the end of the payload both go and Port A is READY. -/
theorem test_pin_lasts :
    (after (exec (.readBurst true false) (shared .b))).store.reads.get .a = some ⟨7, 0, 1, 0⟩
    ∧ (after (exec (.evtRelease .b " 7".toList) passed)).port.b.line = "BUSY EVT.RELEASE".toList ++ crlf
    ∧ (after (exec (.responseSent .a) passed)).cat.records.map (fun r => r.pins) = [0]
    ∧ (after (exec (.responseSent .a) passed)).store.reads.get .a = none
    ∧ (after (exec (.responseSent .a) passed)).port.a.state = .ready := by decide +kernel

/-! #### Alerts -/

/-- An alert of a cause, in transit or not, with a revision pending or not. -/
def alert0 (transit : Option Port) (pending : Option Revision) (expiry : Nat) : Alert :=
  ⟨3, some .step, .notable, ⟨0, 0, .none⟩, 0, expiry, 0, transit, 0, none, none, pending, [], 0⟩

/-- A queue of that alert. -/
def queueOf (transit : Option Port) (pending : Option Revision) (expiry : Nat) : State :=
  { State.reset with
    alerts :=
      { AlertQueue.cold with
        alerts := [alert0 transit pending expiry], lastId := 3, transitDue := if transit.isSome then some 0 else none } }

theorem count_inv_queue (transit : Option Port) (pending : Option Revision) (expiry : Nat) :
    CountInv (queueOf transit pending expiry) := by
  refine ⟨by simp [queueOf, State.reset, Catalogue.cold], by simp [queueOf, Config.queuePlaces],
    by simp [queueOf, State.reset, Front.cold], by simp [queueOf, State.reset, Catalogue.cold], by simp [queueOf],
    by simp [queueOf, State.reset, Store.cold], ?_, ?_⟩
  · intro j hj; cases hj
  · cases transit <;> simp [queueOf, alert0]

theorem witness_AlrFetchHandsOver : (queueOf none none 900).Takes .a ∧ tokens [] = [] := ⟨⟨rfl, rfl⟩, rfl⟩

theorem witness_AlrResultSettles :
    CountInv (queueOf (some .a) none 900) ∧ (queueOf (some .a) none 900).Takes .a
    ∧ tokens " 3 FAILED".toList = ["3".toList, "FAILED".toList] ∧ numberToken "3".toList = some 3
    ∧ resultWord "FAILED".toList = some .failed ∧ resultWord "DELIVERED".toList = some .delivered
    ∧ resultWord "DEFERRED".toList = some .deferred
    ∧ alert0 (some .a) none 900 ∈ (queueOf (some .a) none 900).alerts.alerts
    ∧ (alert0 (some .a) none 900).transit = some .a ∧ (alert0 (some .a) none 900).id = (3 : Int).toNat
    ∧ (∀ x ∈ State.reset.alerts.alerts, ¬ (x.transit = some .a ∧ x.id = (3 : Int).toNat)) := by
  refine ⟨count_inv_queue _ _ _, ⟨rfl, rfl⟩, by decide +kernel, by decide, by decide, by decide, by decide, .head _, rfl, rfl,
    by decide⟩

theorem witness_TransitTimesOut :
    CountInv (queueOf (some .b) none 900) ∧ (∀ x ∈ State.reset.alerts.alerts, x.transit = none)
    ∧ alert0 (some .b) none 900 ∈ (queueOf (some .b) none 900).alerts.alerts
    ∧ (queueOf (some .b) none 900).alerts.transitDue = some 0 ∧ 0 ≤ (queueOf (some .b) none 900).tb.uptime :=
  ⟨count_inv_queue _ _ _, by decide, .head _, rfl, by decide⟩

theorem witness_AlertsExpire :
    CountInv (queueOf none none 0) ∧ alert0 none none 0 ∈ (queueOf none none 0).alerts.alerts
    ∧ (alert0 none none 0).transit = none ∧ (alert0 none none 0).expiry ≤ (queueOf none none 0).tb.uptime :=
  ⟨count_inv_queue _ _ _, .head _, rfl, by decide⟩

theorem witness_AlrPostQueues :
    ((∃ c ∈ ['d', 'o', 'o', 'r'], c ≠ ' ') ∧ ∀ c ∈ ['d', 'o', 'o', 'r'], printable c = true)
    ∧ CountInv State.reset ∧ State.reset.Takes .a ∧ postArgs " URGENT door".toList = some (.urgent, "door".toList) := by
  refine ⟨⟨⟨'d', .head _, by decide⟩, ?_⟩, count_inv _ rfl rfl (by decide) rfl, takes_reset, by decide +kernel⟩
  simp only [List.forall_mem_cons]
  exact ⟨by decide, by decide, by decide, by decide, by simp⟩

/-- A full queue: an alert of one severity at each place, the first IN_TRANSIT. -/
def crowded : State :=
  { State.reset with
    alerts :=
      { AlertQueue.cold with
        alerts :=
          (List.range 16).map fun k =>
            { alert0 (if k = 0 then some .b else none) none 900 with
              id := k + 1, cause := if k = 0 then some .step else none, joined := k, createdUptime := k }
        nextJoin := 16, lastId := 16, transitDue := some 900 } }

/-- R119: the alert dropped for a posted one is the one created first, and never the one IN_TRANSIT. -/
theorem test_victim :
    let t := after (exec (.alrPost .a " URGENT door".toList) crowded)
    (t.alerts.alerts.map fun x => x.id) = [17, 1, 3, 4, 5, 6, 7, 8, 9, 10, 11, 12, 13, 14, 15, 16] := by decide +kernel

theorem witness_AlrPostQueues_full :
    CountInv crowded ∧ crowded.Takes .a ∧ 16 ≤ crowded.alerts.alerts.length
    ∧ ¬ (∀ x ∈ crowded.alerts.alerts, x.transit = none → Severity.urgent.rank ≤ x.severity.rank) :=
  ⟨⟨by decide, by decide, by decide, by decide, by decide, by decide, by decide, by decide⟩, ⟨rfl, rfl⟩, by decide, by decide⟩

theorem witness_AlrPostQueues_order : QueueInv crowded ∧ QueueInv eventful :=
  ⟨⟨by decide, by decide, by decide, by decide⟩, eventful_invariants.2.1⟩

/-! #### Heaters -/

theorem witness_AcquisitionsStart : State.reset.Takes .a ∧ tokens [] = [] ∧ State.reset.thermal.completes = none :=
  ⟨takes_reset, rfl, rfl⟩

/-- An acquisition that completes at the count given. -/
def acquiring (due : Nat) : State := { State.reset with thermal := { Thermal.cold with completes := some due } }

theorem witness_AcquisitionCompletes :
    State.reset.thermal.completes = none ∧ (acquiring 5000000).thermal.completes = some 5000000
    ∧ ¬ ((acquiring 5000000).tb.osc < 5000000
        ∧ (acquiring 5000000).tb.endAt ≤ (acquiring 5000000).tb.raw + (5000000 - (acquiring 5000000).tb.osc))
    ∧ ((acquiring 10000000).tb.osc < 10000000
        ∧ (acquiring 10000000).tb.endAt ≤ (acquiring 10000000).tb.raw + (10000000 - (acquiring 10000000).tb.osc)) := by
  decide

/-- The BATT heater in one state, its channel at −1 °C, in FAULT or not. -/
def heated (r : HeaterRec) (fault : Bool) : State :=
  { State.reset with
    thermal :=
      { Thermal.cold with
        chan := { Thermal.cold.chan with batt := ⟨some (-16), fault, 0, some .good⟩ }
        heater := ⟨r, HeaterRec.cold⟩ } }

theorem witness_ThmClearReleases :
    (heated ⟨.lockout, none, .off, 0, true, true, false⟩ false).Takes .a
    ∧ tokens " BATT".toList = [(Heater.name .batt).toList]
    ∧ ((heated ⟨.lockout, none, .off, 0, true, true, false⟩ false).heater .batt).lockout = true
    ∧ ((heated ⟨.lockout, none, .off, 0, true, true, false⟩ false).heater .batt).coolSeen = true
    ∧ (heated ⟨.lockout, none, .off, 0, true, true, false⟩ false).thermal.level = .normal
    ∧ (heated ⟨.lockout, none, .off, 0, true, true, false⟩ false).thermal.chan.batt.value = some (-16) :=
  ⟨⟨rfl, rfl⟩, by decide +kernel, rfl, rfl, rfl, rfl⟩

theorem witness_HeaterTimers :
    (State.reset.heater .batt).dwell = none
    ∧ ((heated ⟨.heaterOff, some 0, .off, 0, false, false, false⟩ false).heater .batt).dwell = some 0
    ∧ 0 ≤ (heated ⟨.heaterOff, some 0, .off, 0, false, false, false⟩ false).tb.uptime
    ∧ ((heated ⟨.fallbackOn, none, .due 0, 0, false, false, false⟩ true).heater .batt).phase = .due 0
    ∧ ((heated ⟨.fallbackOn, some 9, .due 0, 0, false, false, false⟩ true).heater .batt).dwell ≠ none
    ∧ (heated ⟨.fallbackOff, none, .due 0, 0, false, false, false⟩ true).thermal.chan.batt.fault = true
    ∧ (heated ⟨.fallbackOff, none, .due 0, 0, false, false, false⟩ true).thermal.level = .normal := by decide

/-! #### Domains and leases -/

/-- One domain in one state, the level NORMAL, its power-good as given. -/
def powered (d : Domain) (k : DomState) (due : Option Nat) (good : Bool) : State :=
  { State.reset with
    energy := { State.reset.energy with level := some .normal, domain := State.reset.energy.domain.set d ⟨k, true, due⟩ }
    pins := { Pins.initial with powerGood := Pins.initial.powerGood.set d good } }

theorem witness_SequencerGrants :
    State.reset.energy.level = none
    ∧ (powered .aux .waiting none false).energy.level ≠ none
    ∧ (∀ e ∈ Domain.all, ((powered .aux .waiting none false).dom e).state ≠ .rising)
    ∧ ([.aux, .sensor, .storage, .gnss, .modem, .heatBatt, .heatInst] : List Domain)
        = [] ++ .aux :: [.sensor, .storage, .gnss, .modem, .heatBatt, .heatInst]
    ∧ ((powered .aux .waiting none false).dom .aux).state = .waiting
    ∧ (powered .aux .waiting none false).pins.powerGood.get .aux = false
    ∧ (powered .aux .waiting none true).pins.powerGood.get .aux = true
    ∧ ((powered .aux .rising none true).dom .aux).state = .rising := by decide

theorem witness_PowerGoodTurnsOn :
    ((powered .sensor .rising (some 9) false).dom .sensor).state = .rising ∧ (State.reset.dom .sensor).state = .off := by decide

theorem witness_DomainsFault :
    ((powered .modem .on none true).dom .modem).state = .on ∧ (State.reset.dom .modem).state ≠ .rising
    ∧ ((powered .modem .rising (some 2000000) false).dom .modem).state = .rising
    ∧ ((powered .modem .rising (some 2000000) false).dom .modem).riseDue = some 2000000
    ∧ ¬ ((0 : Nat) < 2000000 ∧ State.reset.tb.endAt ≤ 0 + (2000000 - 0)) := by decide

/-- A session under way, with GNSS and AUX ON. -/
def sessionOn : State :=
  let s := powered .aux .on none true
  { s with
    tb := { s.tb with session := .seeking, failures := 1 }
    energy := { s.energy with domain := { s.energy.domain with gnss := ⟨.on, true, none⟩ } } }

/-- R170, R14: a fault of AUX with GNSS ON fails the session, and one of MODEM does not. -/
theorem test_aux_fault :
    (let t := after (exec (.powerGoodLost .aux) sessionOn);
      (t.tb.session, t.tb.failures, (t.dom .gnss).state)) = (.idle, 2, .off)
    ∧ sessionOn.FailsSession .aux ∧ ¬ sessionOn.FailsSession .modem :=
  ⟨by decide +kernel, .inr ⟨rfl, rfl, by decide⟩, by rintro (h | ⟨h, _⟩) <;> exact absurd h (by decide)⟩

/-- A part in which Port A holds a STORAGE lease that ends at uptime 0. -/
def leasing : State :=
  { State.reset with
    energy :=
      { State.reset.energy with
        level := some .normal
        domain := { State.reset.energy.domain with storage := ⟨.on, true, none⟩, sensor := ⟨.on, true, none⟩ }
        lease := ⟨⟨none, some ⟨.routine, 60, 0, 0⟩⟩, ⟨none, none⟩⟩ } }

theorem leasing_requests : RequestInv leasing := by
  constructor
  · decide
  · exact ⟨fun _ => ⟨.normal, rfl, by decide⟩, fun _ => rfl⟩
  · decide
  · decide
  · decide
  · decide
  · decide

theorem witness_LeasesEnd :
    leasing.energy.leaseOf .a .storage = some ⟨.routine, 60, 0, 0⟩ ∧ 0 ≤ leasing.tb.uptime
    ∧ RequestInv leasing ∧ leasing.Takes .a ∧ tokens " STORAGE".toList = [Domain.storage.name.toList]
    ∧ leasable .storage = some .storage :=
  ⟨rfl, by decide, leasing_requests, ⟨rfl, rfl⟩, by decide +kernel, rfl⟩

/-- R179: the lease of `leasing`, whose expiry has come, ends EXPIRED where the expiries are taken before the measurement, which is
DORMANT, and REVOKED where they come after it. -/
theorem test_expiry_before_fall :
    (let t := after (exec (.rollover ⟨0, 0⟩ [.leases]) leasing);
      (t.energy.level, t.energy.lastEnd.a.map fun e => e.reason)) = (some .dormant, some .expired)
    ∧ (let t := after (exec (.rollover ⟨0, 0⟩ []) leasing);
      (t.energy.level, t.energy.lastEnd.a.map fun e => e.reason)) = (some .dormant, some .revoked) := by decide +kernel

theorem witness_ChargeSourceFollows : State.reset.pins.source = false := rfl

theorem witness_PwrLeaseGrants :
    RequestInv leasing ∧ leasing.Takes .a
    ∧ tokens " MODEM 60 ALERT".toList = [Domain.modem.name.toList, "60".toList, Purpose.alert.name.toList]
    ∧ numberToken "60".toList = some 60 ∧ leasing.energy.level = some .normal ∧ (leasing.dom .modem).state = .off :=
  ⟨leasing_requests, ⟨rfl, rfl⟩, by decide +kernel, by decide, rfl, rfl⟩

theorem witness_PwrClearRestores :
    (powered .aux .fault none false).Takes .a ∧ tokens " AUX".toList = [Domain.aux.name.toList]
    ∧ ((powered .aux .fault none false).dom .aux).state = .fault
    ∧ ((powered .heatBatt .fault none false).dom .heatBatt).state = .fault ∧ (State.reset.dom .aux).state ≠ .fault :=
  ⟨⟨rfl, rfl⟩, by decide +kernel, rfl, rfl, by decide⟩

/-! #### Ports and settings -/

theorem witness_AttReadTakesCause :
    State.reset.Takes .a ∧ tokens [] = [] ∧ State.reset.port.a.presented = some .restarted := ⟨takes_reset, rfl, rfl⟩

theorem witness_CharactersMakeLines :
    (65#8 : Byte).toNat ≠ 13 ∧ (65#8 : Byte).toNat ≠ 10 ∧ (10#8 : Byte).toNat = 10
    ∧ State.reset.port.a.afterCr = false ∧ State.reset.port.a.bad = false ∧ State.reset.port.a.overlong = false
    ∧ State.reset.Takes .a ∧ tokens State.reset.port.a.buffer = []
    ∧ tokens "DOOR".toList = "DOOR".toList :: [] ∧ (∀ x ∈ commandTable noEnding, x.1.toList ≠ "DOOR".toList)
    ∧ "  TIME.READ x".toList = List.replicate 2 ' ' ++ "TIME.READ".toList ++ " x".toList := by
  refine ⟨by decide, by decide, by decide, rfl, rfl, rfl, takes_reset, rfl, by decide +kernel, ?_, by decide⟩
  simp only [commandTable]
  intro x hx
  fin_cases hx <;> decide

/-- A port that sends a response. -/
def busy : State :=
  { State.reset with port := { State.reset.port with a := { State.reset.port.a with state := .responding } } }

theorem witness_BusyLinesDiscarded :
    (Instr.save .a []).linePort = some .a ∧ (busy.port.get .a).state ≠ .ready
    ∧ Instr.save .a [] ≠ .lineDiscarded .a ∧ ({ busy.port.a with skipping := true } : PortRec).skipping = true
    ∧ (State.reset.port.get .a).state = .ready := by decide

theorem witness_ReadsChangeNothing :
    State.reset.Takes .a ∧ tokens [] = [] ∧ numberArgs (tokens " 7".toList) = some [7]
    ∧ tokens " smp.rate".toList = [Param.smpRate.row.name.toList] :=
  ⟨takes_reset, rfl, by decide +kernel, by decide +kernel⟩

theorem witness_WrongFormIsSyntax :
    State.reset.Takes .a ∧ tokens " x".toList ≠ [] ∧ (tokens " x".toList).length ≠ 3
    ∧ tokens " 3 LATE".toList = ["3".toList, "LATE".toList] ∧ resultWord "LATE".toList = none
    ∧ tokens " smp.rate x".toList = ["smp.rate".toList, "x".toList] ∧ numberToken "x".toList = none
    ∧ tokens " MODEM 5 LATE".toList = ["MODEM".toList, "5".toList, "LATE".toList] ∧ purposeWord "LATE".toList = none
    ∧ domainWord "x".toList = none ∧ heaterWord "x".toList = none ∧ postArgs " URGENT".toList = none :=
  ⟨takes_reset, by decide +kernel, by decide +kernel, by decide +kernel, by decide, by decide +kernel, by decide,
    by decide +kernel, by decide, by decide, by decide, by decide +kernel⟩

theorem witness_SetWritesTable :
    State.reset.Takes .a ∧ tokens " thm.hot 0".toList = ["thm.hot".toList, "0".toList]
    ∧ numberToken "0".toList = some 0 ∧ "thm.hot".toList = Param.thmHot.row.name.toList
    ∧ TableInv State.reset.settings.working :=
  ⟨takes_reset, by decide +kernel, by decide, rfl, table_default⟩

theorem witness_SaveWritesCopy : State.reset.Takes .a ∧ tokens [] = [] ∧ State.reset.settings.saving = none :=
  ⟨takes_reset, rfl, rfl⟩

theorem witness_RestartsReachAll :
    State.reset.Takes .a ∧ tokens [] = [] ∧ CountInv { State.reset with restartsDue := 2 }
    ∧ ({ State.reset with restartsDue := 2 } : State).restartsDue = 1 + 1
    ∧ State.reset.pins.reset = false ∧ State.reset.restartsDue = 0
    ∧ BlockInv eventful ∧ TriggerInv eventful ∧ OpenInv eventful ∧ eventful.front.outstanding = none
    ∧ eventful.front.waiting = none ∧ (∀ j ∈ eventful.store.jobs, j.state ≠ .waitingBlock) :=
  ⟨takes_reset, rfl, count_inv _ rfl rfl (by decide) rfl, rfl, rfl, rfl, eventful_invariants.2.2.1, eventful_invariants.2.2.2.1,
    eventful_invariants.2.2.2.2, rfl, rfl, by decide⟩

/-- R112, R113: a burst stopped after one of its two sets keeps that one, in a part block that is posted. -/
theorem test_burst_stopped :
    let s : State :=
      { eventful with front := { Front.cold 100 with ring := [{ set0 with index := 1 }, set0], sampleIndex := 2 } }
    ((s.warmRestart 0 1).cat.records.map fun x => (x.capture, x.blocks.map fun b => (b.number, b.sets.length)))
      = [(.complete, [(7, 0)]), (.truncated, [(5, 1)])] := by decide +kernel

/-- R102, R112: an EVENT job that became COPYING during a MANUAL job's burst takes none of that burst's sets: with the burst in progress
in entry 1, the set written stands in the MANUAL job's block and the EVENT job's empty block is freed. -/
theorem test_burst_stopped_of_other_job :
    let s : State :=
      { eventful with
        front := { Front.cold 100 with ring := [{ set0 with index := 1 }, set0], sampleIndex := 2 }
        store :=
          { eventful.store with
            free := eventful.store.free.filter (· ≠ 6)
            jobs := ⟨1, .manual, 8, 0, 0, some 1, some ⟨6, []⟩, 0, false, .copying⟩ :: eventful.store.jobs }
        cat := { eventful.cat with records := eventful.cat.records ++ [{ manualRecord 0 1 none 8 with capture := .running }] } }
    ((s.warmRestart 1 1).cat.records.map fun x => (x.id, x.capture, x.blocks.map fun b => (b.number, b.sets.length)))
      = [(7, .complete, [(7, 0)]), (9, .truncated, []), (8, .cancelled, [(6, 1)])] := by decide +kernel

/-- The clauses of SetWritesTable for trig.enable 0 with an event, and of ForcedCloseEndsEvent, meet a state with everything they
ask: an event, a working table in order, sizes, holders, and room in the queue. -/
theorem witness_closing_by_set :
    (∃ c, eventful.trig.event = some c) ∧ eventful.trig.station ≠ .suspended ∧ TableInv eventful.settings.working
    ∧ CountInv eventful ∧ BlockInv eventful ∧ eventful.alerts.alerts.length + 3 ≤ 16 ∧ eventful.Takes .a :=
  ⟨⟨_, rfl⟩, by decide, table_default, eventful_invariants.1, eventful_invariants.2.2.1, by decide, ⟨rfl, rfl⟩⟩

/-- R100: a burst fills a block with a set still to copy and the free-block list empty: the job waits, and the alert is posted. -/
theorem test_burst_exhausts :
    let s : State :=
      { eventful with
        front := { Front.cold 100 with ring := [{ set0 with index := 1 }, set0], sampleIndex := 2 }
        store :=
          { eventful.store with
            free := [], jobs := [⟨0, .event, 9, 0, 0, none, some ⟨5, List.replicate 2047 set0⟩, 0, false, .copying⟩] } }
    ((s.captureBurst).store.jobs.map fun j => (j.state, j.posted, j.next)) = [(.waitingBlock, 1, 1)]
    ∧ (s.captureBurst).alerts.alerts.any (fun x => x.cause = some .blocksExhausted) = true := by decide +kernel

end Sys2Proof.Tests
end

section
/-! The Station Timebase (01): the command that starts a session. -/

namespace Sys2Proof.Machine

open Sys2Proof

/-- R13 touches no port: a session begun on an emptied port and then answered is the session begun, answered. -/
theorem State.sessionBegun_emptied_respond (s : State) (p : Port) (line : Text) :
    State.respond (State.sessionBegun { s with port := s.port.set p (s.port.get p).emptied }) p line =
      s.sessionBegun.answered p line :=
  s.sessionBegun.respond_emptied p line

/-- R12 on a READY port, in the words of the rule: TIME.SESSION without arguments, as the session and the level decide it. -/
theorem cmdTimeSession_emptied {s : State} {p : Port} {args : Text} (noArgs : tokens args = []) :
    cmdTimeSession p args { s with port := s.port.set p (s.port.get p).emptied } =
      if s.tb.session = .idle then
        if s.permits .command = true then s.sessionBegun.answered p (reply .ok "TIME.SESSION" [])
        else s.answered p (reply .level "TIME.SESSION" [])
      else s.answered p (reply .ok "TIME.SESSION" []) := by
  rw [cmdTimeSession, State.noArg_nil noArgs, State.startSession_eq, State.sessionBegun_emptied_respond]
  simp only [State.respond_emptied]
  rfl

/-- Settles O22: the READY port hands the emptied line to the command (R187), and what R9 permits of a command start is
`State.permits_command`. -/
theorem timeSessionAnswers : Obligations.TimeSessionAnswers := by
  intro s p args takes noArgs
  have taken : exec (.timeSession p args) s = .next (s.takeLine p (cmdTimeSession p args)) := rfl
  rw [taken, State.takeLine_ready takes, cmdTimeSession_emptied noArgs]
  simp only [State.permits_command]

end Sys2Proof.Machine
end

section
/-! The sample acquisition family at cold start (01 §1.9, 02, 03): the blocks a cold start resets, each as its own cold value. -/

namespace Sys2Proof.Machine

open Sys2Proof

/-- R26: no value of the Timebase survives a loss of supply. -/
theorem State.coldStart_tb (s : State) : s.coldStart.tb = Timebase.cold := rfl

/-- R41: the rate in force is smp.rate in the settings that the cold start itself loaded. -/
theorem State.coldStart_front (s : State) : s.coldStart.front = Front.cold (s.coldStart.paramN .smpRate) := rfl

/-- R70: ENABLE_OFF is judged by the settings that the cold start itself loaded. -/
theorem State.coldStart_trig (s : State) :
    s.coldStart.trig = Trigger.cold (decide (s.coldStart.paramN .trigEnable = 0)) := rfl

/-- R26: the reading starts at 0. -/
@[simp] theorem Timebase.cold_ticks : Timebase.cold.ticks = 0 := Nat.zero_min _

/-- R26: the first second lasts 10,000,000 ticks, neither slewed nor corrected. -/
@[simp] theorem Timebase.cold_secondLength : Timebase.cold.endAt - Timebase.cold.raw = 10000000 := rfl

/-- R41: with an empty ring no index is the newest written. -/
@[simp] theorem Front.cold_newest (rate : Nat) : (Front.cold rate).newest = none := rfl

/-- R70: every component of the detector starts from the same record. -/
@[simp] theorem Trigger.cold_comp_get (off : Bool) (a : Axis) : (Trigger.cold off).comp.get a = Comp.cold := by
  cases a <;> rfl

/-- Settles O4: the Timebase, the front and the Trigger Unit after a cold start are the cold values of the three lemmas
`State.coldStart_tb`, `State.coldStart_front` and `State.coldStart_trig`, read field by field. -/
theorem coldStartTimeAndSampling : Obligations.ColdStartTimeAndSampling := by
  intro s
  have taken : exec .coldStart s = .next s.coldStart := rfl
  refine ⟨s.coldStart, taken, ?_⟩
  simp only [State.coldStart_tb, State.coldStart_front, State.coldStart_trig, Timebase.cold_ticks,
    Timebase.cold_secondLength, Front.cold_newest, Trigger.cold_comp_get]
  simp only [Timebase.cold, Front.cold, Trigger.cold, Comp.cold, implies_true, and_self]

end Sys2Proof.Machine
end

section
/-! The catalogue, the store, the queue, the Thermal Unit and the Energy Unit at cold start (04 §4.10, 05, 06, 07, 08): the blocks
as their cold values, the ids that follow, and the sequencer with nothing to grant. -/

namespace Sys2Proof.Machine

open Sys2Proof

/-- R92: no record survives a loss of supply. -/
theorem State.coldStart_cat (s : State) : s.coldStart.cat = Catalogue.cold := rfl

/-- R111: no block, job or read survives a loss of supply. -/
theorem State.coldStart_store (s : State) : s.coldStart.store = Store.cold := rfl

/-- R138: no alert or counter survives a loss of supply. -/
theorem State.coldStart_alerts (s : State) : s.coldStart.alerts = AlertQueue.cold := rfl

/-- R156: no measurement or latch survives a loss of supply. -/
theorem State.coldStart_thermal (s : State) : s.coldStart.thermal = Thermal.cold := rfl

/-- R183: C_full and the charge come from the settings that the cold start itself loaded. -/
theorem State.coldStart_energy (s : State) :
    s.coldStart.energy =
      Energy.cold (s.coldStart.paramN .pwrCapacity * 3600000) (s.coldStart.paramN .pwrInitialSoc) := rfl

/-- R75, R116: when the id after the last is not in use, it is the one assigned. -/
theorem firstFree_of_nextId_unused {used : Nat → Bool} {last : Nat} (unused : used (nextId last) = false) (fuel : Nat) :
    firstFree used fuel last = nextId last := by
  cases fuel with
  | zero => rfl
  | succ fuel => simp [firstFree, unused]

/-- R75: with no record and no alert, no id is passed over. -/
theorem State.freshRecordId_of_empty {s : State} (records : s.cat.records = []) (alerts : s.alerts.alerts = []) :
    s.freshRecordId = nextId s.cat.lastId :=
  firstFree_of_nextId_unused (by simp [State.recordIdUsed, records, alerts]) _

/-- R116: with no alert, no id is passed over. -/
theorem AlertQueue.freshId_of_empty {q : AlertQueue} (alerts : q.alerts = []) : q.freshId = nextId q.lastId :=
  firstFree_of_nextId_unused (by simp [alerts]) _

/-- R92: the first record takes id 1. -/
@[simp] theorem State.coldStart_freshRecordId (s : State) : s.coldStart.freshRecordId = 1 :=
  State.freshRecordId_of_empty rfl rfl

/-- R138: the first alert takes id 1. -/
@[simp] theorem AlertQueue.cold_freshId : AlertQueue.cold.freshId = 1 := AlertQueue.freshId_of_empty rfl

/-- R156: every channel starts from the same record. -/
@[simp] theorem Thermal.cold_chan_get (c : Channel) : Thermal.cold.chan.get c = ChanRec.cold := by
  cases c <;> rfl

/-- R156: both heater controllers start from the same record. -/
@[simp] theorem State.coldStart_heater (s : State) (h : Heater) : s.coldStart.heater h = HeaterRec.cold := by
  cases h <;> rfl

/-- R183: every domain starts from the same record. -/
@[simp] theorem Energy.cold_domain_get (cFull soc : Nat) (d : Domain) :
    (Energy.cold cFull soc).domain.get d = DomRec.cold := by
  cases d <;> rfl

/-- R183: every domain starts from the same record. -/
@[simp] theorem State.coldStart_dom (s : State) (d : Domain) : s.coldStart.dom d = DomRec.cold :=
  Energy.cold_domain_get _ _ d

/-- R183: no lease is held. -/
@[simp] theorem Energy.cold_leaseOf (cFull soc : Nat) (p : Port) (d : LeaseDomain) :
    (Energy.cold cFull soc).leaseOf p d = none := by
  cases p <;> cases d <;> rfl

/-- R183: no lease has ended toward either port. -/
@[simp] theorem Energy.cold_lastEnd_get (cFull soc : Nat) (p : Port) : (Energy.cold cFull soc).lastEnd.get p = none := by
  cases p <;> rfl

/-- R167: the waiting list is empty when no domain is WAITING. -/
theorem Energy.waitingList_eq_nil {e : Energy} (idle : ∀ d, (e.domain.get d).state ≠ .waiting) : e.waitingList = [] :=
  List.filter_eq_nil_iff.mpr fun d _ => by simpa using idle d

/-- R167: the rising slot is free when no domain is RISING. -/
theorem Energy.rising_eq_none {e : Energy} (idle : ∀ d, (e.domain.get d).state ≠ .rising) : e.rising = none :=
  List.find?_eq_none.mpr fun d _ => by simpa using idle d

/-- R167: while the level is undetermined nothing is granted. -/
theorem Energy.nextGrant_of_level_none {e : Energy} (undetermined : e.level = none) : e.nextGrant = none := by
  simp [Energy.nextGrant, undetermined]

@[simp] theorem Energy.cold_waitingList (cFull soc : Nat) : (Energy.cold cFull soc).waitingList = [] :=
  Energy.waitingList_eq_nil fun d => by simp [DomRec.cold]

@[simp] theorem Energy.cold_rising (cFull soc : Nat) : (Energy.cold cFull soc).rising = none :=
  Energy.rising_eq_none fun d => by simp [DomRec.cold]

@[simp] theorem Energy.cold_nextGrant (cFull soc : Nat) : (Energy.cold cFull soc).nextGrant = none :=
  Energy.nextGrant_of_level_none rfl

/-- Settles O5: the five blocks after a cold start are the cold values of `State.coldStart_cat` to `State.coldStart_energy`; the
ids, the records of channels, heaters and domains, and the idle sequencer are the lemmas above, and the rest is read field by
field. -/
theorem coldStartStoresAndPower : Obligations.ColdStartStoresAndPower := by
  intro s
  have taken : exec .coldStart s = .next s.coldStart := rfl
  refine ⟨s.coldStart, taken, ?_⟩
  simp only [State.coldStart_freshRecordId, State.coldStart_heater, State.coldStart_dom]
  simp only [State.coldStart_cat, State.coldStart_store, State.coldStart_alerts, State.coldStart_thermal,
    State.coldStart_energy, AlertQueue.cold_freshId, Thermal.cold_chan_get, Energy.cold_waitingList, Energy.cold_rising,
    Energy.cold_nextGrant, Energy.cold_leaseOf, Energy.cold_lastEnd_get]
  simp only [Catalogue.cold, Store.cold, Config.blockCount, AlertQueue.cold, Thermal.cold, ChanRec.cold, HeaterRec.cold,
    HeaterState.requests, Energy.cold, DomRec.cold, DomState.switched, implies_true, and_self]

end Sys2Proof.Machine
end

section
/-! The Master Ports (09): attention, and the command that reads the presented cause. -/

namespace Sys2Proof.Machine

open Sys2Proof

/-- R198 on a READY port that presents nothing: NONE is the answer, and the port keeps what is pending. -/
theorem cmdAttRead_emptied_of_silent {s : State} {p : Port} {args : Text} (noArgs : tokens args = [])
    (silent : (s.port.get p).presented = none) :
    cmdAttRead p args { s with port := s.port.set p (s.port.get p).emptied } =
      s.answered p (reply .ok "ATT.READ" [field "cause" "NONE".toList, field "pending" (natText 0)]) := by
  have emptiedSilent : (s.port.get p).emptied.presented = none := silent
  simp only [cmdAttRead, State.noArg_nil noArgs, PerPort.get_set_self, emptiedSilent, State.respond_emptied]

/-- R198 on a READY port that presents a cause: the cause is read from the port, and the answer counts what is left pending. -/
theorem cmdAttRead_emptied_of_presented {s : State} {p : Port} {args : Text} {c : Attn} (noArgs : tokens args = [])
    (presents : (s.port.get p).presented = some c) :
    cmdAttRead p args { s with port := s.port.set p (s.port.get p).emptied } =
      { s with
        port :=
          s.port.set p
            { (s.port.get p).emptied.readCause c with
              state := .responding
              line :=
                reply .ok "ATT.READ"
                  [field "cause" c.name.toList,
                    field "pending" (natText ((s.port.get p).emptied.readCause c).pending.length)]
              payload := [] } } := by
  have emptiedPresents : (s.port.get p).emptied.presented = some c := presents
  simp only [cmdAttRead, State.noArg_nil noArgs, PerPort.get_set_self, emptiedPresents, State.respond, PerPort.set_set]

/-- Settles O53: the READY port hands the emptied line to the command (R187). With nothing presented the answer is NONE; with a
cause presented, the one presented next is the highest of the rest, which `highest_cases` says no other cause of it comes before. -/
theorem attReadTakesCause : Obligations.AttReadTakesCause := by
  intro s p args takes noArgs
  have taken : exec (.attRead p args) s = .next (s.takeLine p (cmdAttRead p args)) := rfl
  rw [taken, State.takeLine_ready takes]
  split
  next silent => rw [cmdAttRead_emptied_of_silent noArgs silent]
  next c presents =>
    intro rest
    refine ⟨highest rest, highest_cases rest, ?_⟩
    rw [cmdAttRead_emptied_of_presented noArgs presents]
    rfl

end Sys2Proof.Machine
end

section
/-! Time messages (01 §1.3, R212): how a line is cut into tokens, a number read back from its digits, and the command that takes a
message. -/

namespace Sys2Proof.Machine

open Sys2Proof

/-! ### Decimal digits (R190, R213) -/

theorem digit_of_isDigit {c : Char} (h : c.isDigit = true) : digit c = some (c.toNat - '0'.toNat) := by
  have range : '0'.toNat ≤ c.toNat ∧ c.toNat ≤ '9'.toNat := by
    simpa [Char.isDigit, UInt32.le_iff_toNat_le] using h
  rw [digit, if_pos range]

/-- Reading digits on from a value is the library's evaluation of a digit string. -/
theorem digitsFrom_eq_ofDigitChars {t : Text} (digits : ∀ c ∈ t, c.isDigit = true) (n : Nat) :
    digitsFrom n t = some (Nat.ofDigitChars 10 t n) := by
  induction t generalizing n with
  | nil => rfl
  | cons c t ih =>
    have first : c.isDigit = true := digits c List.mem_cons_self
    have rest : ∀ d ∈ t, d.isDigit = true := fun d hd => digits d (List.mem_cons_of_mem c hd)
    simp only [digitsFrom, digit_of_isDigit first, ih rest, Nat.ofDigitChars_cons]

theorem isDigit_of_mem_natText {n : Nat} {c : Char} (h : c ∈ natText n) : c.isDigit = true :=
  Nat.isDigit_of_mem_toDigits (by decide) (by decide) h

theorem natText_ne_nil (n : Nat) : natText n ≠ [] := Nat.toDigits_ne_nil

/-- R190, R213: a number is read back from its written form. -/
theorem natToken_natText (n : Nat) : natToken (natText n) = some n := by
  have read : digitsFrom 0 (natText n) = some n := by
    rw [digitsFrom_eq_ofDigitChars fun _ => isDigit_of_mem_natText]
    exact congrArg some (Nat.ofDigitChars_toDigits (by decide) (by decide))
  cases written : natText n with
  | nil => exact absurd written (natText_ne_nil n)
  | cons c t => rwa [written] at read

/-! ### Tokens (R189) -/

theorem tokensFrom_nil (fuel : Nat) : tokensFrom fuel [] = [] := by cases fuel <;> rfl

theorem tokensFrom_space (fuel : Nat) (t : Text) : tokensFrom fuel (' ' :: t) = tokensFrom fuel t := by
  cases fuel <;> rfl

theorem wordOf_append_space {w : Text} (noSpace : ' ' ∉ w) (t : Text) : wordOf (w ++ ' ' :: t) = w := by
  induction w with
  | nil => rfl
  | cons c w ih =>
    rw [List.mem_cons, not_or] at noSpace
    simp [wordOf, ih noSpace.2, Ne.symm noSpace.1]

theorem restOf_append_space {w : Text} (noSpace : ' ' ∉ w) (t : Text) : restOf (w ++ ' ' :: t) = ' ' :: t := by
  induction w with
  | nil => rfl
  | cons c w ih =>
    rw [List.mem_cons, not_or] at noSpace
    simp [restOf, ih noSpace.2, Ne.symm noSpace.1]

/-- R189: a word and a space before the rest of a text are one token of it. -/
theorem tokensFrom_word_space {w : Text} (word : w ≠ []) (noSpace : ' ' ∉ w) (fuel : Nat) (t : Text) :
    tokensFrom (fuel + 1) (w ++ ' ' :: t) = w :: tokensFrom fuel t := by
  have first : wordOf (w ++ ' ' :: t) = w := wordOf_append_space noSpace t
  have rest : restOf (w ++ ' ' :: t) = ' ' :: t := restOf_append_space noSpace t
  cases w with
  | nil => exact absurd rfl word
  | cons c w =>
    rw [List.mem_cons, not_or] at noSpace
    rw [List.cons_append] at first rest ⊢
    simp only [tokensFrom, skipSpaces, if_neg (Ne.symm noSpace.1), first, rest, tokensFrom_space]

/-- R189: a word that ends the text is its last token. -/
theorem tokensFrom_word {w : Text} (word : w ≠ []) (noSpace : ' ' ∉ w) (fuel : Nat) :
    tokensFrom (fuel + 1) w = [w] := by
  have wordAll : ∀ u : Text, ' ' ∉ u → wordOf u = u ∧ restOf u = [] := by
    intro u hu
    induction u with
    | nil => exact ⟨rfl, rfl⟩
    | cons c u ih =>
      rw [List.mem_cons, not_or] at hu
      simp [wordOf, restOf, ih hu.2, Ne.symm hu.1]
  obtain ⟨first, rest⟩ := wordAll w noSpace
  cases w with
  | nil => exact absurd rfl word
  | cons c w =>
    rw [List.mem_cons, not_or] at noSpace
    simp only [tokensFrom, skipSpaces, if_neg (Ne.symm noSpace.1), first, rest, tokensFrom_nil]

theorem space_not_mem_natText (n : Nat) : ' ' ∉ natText n := fun h =>
  absurd (isDigit_of_mem_natText h) (by decide)

/-! ### The line of a time message (R212) -/

/-- The line of a well-formed time message, as characters (R212). -/
def timeLineText (sec : Nat) (valid : Bool) (sats : Nat) : Text :=
  "TT ".toList ++ natText sec ++ (if valid then " V " else " N ").toList ++ natText sats

/-- R212: its four tokens. -/
theorem tokens_timeLineText (sec : Nat) (valid : Bool) (sats : Nat) :
    tokens (timeLineText sec valid sats) =
      ["TT".toList, natText sec, if valid then ['V'] else ['N'], natText sats] := by
  have cut : timeLineText sec valid sats =
      "TT".toList ++ ' ' :: (natText sec ++ ' ' :: ((if valid then ['V'] else ['N']) ++ ' ' :: natText sats)) := by
    cases valid <;> simp [timeLineText]
  have fuel : ∃ k, (timeLineText sec valid sats).length + 1 = k + 1 + 1 + 1 + 1 := by
    rw [cut]
    exact ⟨(natText sec).length + (natText sats).length + 3, by cases valid <;> simp <;> omega⟩
  have mark : (if valid then ['V'] else ['N']) ≠ [] ∧ ' ' ∉ (if valid then ['V'] else ['N']) := by
    cases valid <;> decide
  obtain ⟨k, hk⟩ := fuel
  rw [tokens, hk, cut, tokensFrom_word_space (by decide) (by decide),
    tokensFrom_word_space (natText_ne_nil sec) (space_not_mem_natText sec), tokensFrom_word_space mark.1 mark.2,
    tokensFrom_word (natText_ne_nil sats) (space_not_mem_natText sats)]

theorem printable_of_isDigit {c : Char} (h : c.isDigit = true) : printable c = true := by
  have range : 48 ≤ c.toNat ∧ c.toNat ≤ 57 := by simpa [Char.isDigit, UInt32.le_iff_toNat_le] using h
  simp only [printable, Bool.and_eq_true, decide_eq_true_eq]
  omega

/-- R212: every character of the line is printable. -/
theorem printable_of_mem_timeLineText {sec sats : Nat} {valid : Bool} {c : Char} (h : c ∈ timeLineText sec valid sats) :
    printable c = true := by
  have fixed : ∀ c ∈ "TT ".toList ++ (if valid then " V " else " N ").toList, printable c = true := by
    cases valid <;> simp [printable]
  simp only [timeLineText, List.mem_append] at h
  rcases h with ((word | digits) | mark) | digits
  · exact fixed c (List.mem_append_left _ word)
  · exact printable_of_isDigit (isDigit_of_mem_natText digits)
  · exact fixed c (List.mem_append_right _ mark)
  · exact printable_of_isDigit (isDigit_of_mem_natText digits)

/-- R212: with the seconds below 2^40 and at most 99 satellites the line keeps to 40 characters. -/
theorem length_timeLineText_le {sec sats : Nat} (valid : Bool) (seconds : sec < 1099511627776) (satellites : sats ≤ 99) :
    (timeLineText sec valid sats).length ≤ Config.messageLength := by
  have secDigits : (natText sec).length ≤ 13 := (Nat.length_toDigits_le_iff (by decide) (by decide)).2 (by omega)
  have satDigits : (natText sats).length ≤ 2 := (Nat.length_toDigits_le_iff (by decide) (by decide)).2 (by omega)
  cases valid <;> simp [timeLineText, Config.messageLength] <;> omega

/-- A printable character, sent as its byte, is received as itself. -/
theorem byteChar_ofNat_toNat {c : Char} (h : printable c = true) : byteChar (BitVec.ofNat 8 c.toNat) = c := by
  have small : c.toNat < 2 ^ 8 := by
    simp only [printable, Bool.and_eq_true, decide_eq_true_eq] at h
    omega
  rw [byteChar, BitVec.toNat_ofNat, Nat.mod_eq_of_lt small, Char.ofNat_toNat]

/-- A text of printable characters, sent as bytes, is received as itself. -/
theorem map_byteChar_of_printable {t : Text} (h : ∀ c ∈ t, printable c = true) :
    (t.map fun c => (BitVec.ofNat 8 c.toNat : Byte)).map byteChar = t := by
  rw [List.map_map]
  exact (List.map_congr_left fun c hc => byteChar_ofNat_toNat (h c hc)).trans (List.map_id t)

/-- R212: the form of a time message parses to its values. -/
theorem timeMessageOf_timeLineText {sec sats : Nat} (valid : Bool) (arrival : Nat) (seconds : sec < 1099511627776)
    (satellites : sats ≤ 99) :
    timeMessageOf ((timeLineText sec valid sats).map fun c => BitVec.ofNat 8 c.toNat) false arrival =
      some ⟨sec, valid, sats, arrival⟩ := by
  have received := map_byteChar_of_printable fun c => printable_of_mem_timeLineText (sec := sec) (sats := sats) (valid := valid)
  have allPrintable : (timeLineText sec valid sats).all printable = true :=
    List.all_eq_true.2 fun c => printable_of_mem_timeLineText
  have fits := length_timeLineText_le valid seconds satellites
  have bound : sec < count40 := seconds
  simp only [timeMessageOf, received, allPrintable, Nat.not_lt.2 fits, tokens_timeLineText, natToken_natText]
  cases valid <;> simp [bound, satellites]

/-- R5: what a time message line does, by the session. -/
theorem State.timeMessage_eq (s : State) (line : List Byte) (framing : Bool) :
    s.timeMessage line framing =
      if s.tb.session = .seeking ∨ s.tb.session = .tracking then
        match timeMessageOf line framing s.tb.osc with
        | some m => { s with tb := { s.tb with buffer := some m } }
        | none => s
      else s := by
  unfold State.timeMessage
  cases session : s.tb.session <;> simp <;> rfl

/-- Settles O15: the line is taken after its `wait` ticks (log entry 4), which leave the session as it was; the form of R212 parses by
`timeMessageOf_timeLineText`, and no line with a framing error does. -/
theorem timeMessageTaken : Obligations.TimeMessageTaken := by
  refine ⟨fun s wait line framing => ?_, fun sec sats valid arrival seconds satellites => ?_, fun line arrival => rfl⟩
  · exact congrArg Host.Outcome.next ((s.elapse wait).timeMessage_eq line framing)
  · exact timeMessageOf_timeLineText valid arrival seconds satellites

end Sys2Proof.Machine
end

section
/-! Digitizer frames (02 §2.3, R34 to R37, R212): the completion of a set, as one equation for each step of it. -/

namespace Sys2Proof.Machine

open Sys2Proof

/-! ### What the Trigger Unit keeps of the blanking window and the rate -/

/-- R63: of the Trigger Unit a close discards the event context and any countdown. -/
theorem State.closeEvent_trig (s : State) (forced interrupted hand : Bool) :
    (s.closeEvent forced interrupted hand).trig =
      if s.trig.event = none then s.trig else { s.trig with event := none, countdown := none } := by
  unfold State.closeEvent
  cases event : s.trig.event with
  | none => rfl
  | some c => cases record : c.record <;> cases hand <;> simp [record]

/-- R54, R55: what is left of the blanking window, and the rate of the most recent set. -/
def Trigger.blankingAndRate (t : Trigger) : Nat × Option Nat := (t.blanking, t.lastRate)

theorem State.closeEvent_blankingAndRate (s : State) (forced interrupted hand : Bool) :
    (s.closeEvent forced interrupted hand).trig.blankingAndRate = s.trig.blankingAndRate := by
  rw [State.closeEvent_trig]
  split <;> rfl

theorem State.addCause_blankingAndRate (s : State) (f : Causes → Causes) :
    (s.addCause f).trig.blankingAndRate = s.trig.blankingAndRate := by
  unfold State.addCause
  dsimp only
  split
  · rfl
  · exact State.closeEvent_blankingAndRate { s with trig := { s.trig with causes := f s.trig.causes } } false true true

theorem State.removeCause_blankingAndRate (s : State) (f : Causes → Causes) :
    (s.removeCause f).trig.blankingAndRate = s.trig.blankingAndRate := by
  unfold State.removeCause
  dsimp only
  split <;> rfl

theorem State.frontReport_blankingAndRate (s : State) (f : FrontState) :
    (s.frontReport f).trig.blankingAndRate = s.trig.blankingAndRate := by
  unfold State.frontReport
  split
  · exact s.removeCause_blankingAndRate _
  · exact s.addCause_blankingAndRate _

theorem State.followEvent_blankingAndRate (s : State) (r : SetRec) (processed : Bool) (f : Figures) :
    (s.followEvent r processed f).trig.blankingAndRate = s.trig.blankingAndRate := by
  unfold State.followEvent
  split <;> rfl

theorem State.openEvent_blankingAndRate (s : State) (r : SetRec) (f : Figures) :
    (s.openEvent r f).trig.blankingAndRate = s.trig.blankingAndRate := by
  unfold State.openEvent
  dsimp only
  split <;> simp [Trigger.blankingAndRate]

theorem State.endPostRoll_blankingAndRate (s : State) :
    s.endPostRoll.trig.blankingAndRate = s.trig.blankingAndRate :=
  s.closeEvent_blankingAndRate false false true

/-- R56, R62: the station's evaluation opens an event, ends its post-roll, or moves the station alone. -/
theorem State.evaluate_blankingAndRate (s : State) (r : SetRec) (f : Figures) :
    (s.evaluate r f).trig.blankingAndRate = s.trig.blankingAndRate := by
  unfold State.evaluate
  dsimp only
  split
  case h_1 => rfl
  case h_2 => split; exacts [s.openEvent_blankingAndRate r f, rfl]
  case h_3 =>
    split
    · rfl
    · split; exacts [s.endPostRoll_blankingAndRate, rfl]
  case h_4 =>
    split
    · rfl
    · split
      · split; exacts [s.endPostRoll_blankingAndRate, rfl]
      · exact s.endPostRoll_blankingAndRate

/-- R54: a set handed over leaves its rate with the Trigger Unit, and the blanking window as it was. -/
theorem State.handOver_blankingAndRate (s : State) (r : SetRec) :
    (s.handOver r).trig.blankingAndRate = (s.trig.blanking, some s.front.rate) := by
  unfold State.handOver
  dsimp only
  split
  · rfl
  · rw [State.reportEvent_trig, State.evaluate_blankingAndRate, State.followEvent_blankingAndRate]
    split <;> rfl

/-! ### The steps of a completion -/

/-- R55: the remainder falls by one with each set, and a set is blanked while one is left. -/
theorem State.askBlanking_eq (s : State) :
    s.askBlanking =
      ({ s with trig := { s.trig with blanking := s.trig.blanking - 1 } }, decide (0 < s.trig.blanking)) := by
  unfold State.askBlanking
  split
  next covered => rw [decide_eq_true covered]
  next ended =>
    have same : s.trig.blanking - 1 = s.trig.blanking := by omega
    rw [decide_eq_false ended, same]

/-- R33: of the front a ring write changes the ring alone. -/
theorem State.writeRing_front (s : State) (r : SetRec) :
    (s.writeRing r).front = { s.front with ring := (r :: s.front.ring).take 16384 } := by
  unfold State.writeRing
  rw [State.wakeJobs_front]
  split <;> simp [Config.ringLength]

/-- The missing run after a set (R37). -/
def Front.runAfter (f : Front) (missing : Bool) : Nat :=
  if f.state = .stopped ∨ f.state = .settling then f.missingRun
  else if missing then min 65535 (f.missingRun + 1)
  else 0

/-- The front's state after a set, the missing run at which the link is lost given (R37). -/
def Front.stateAfter (f : Front) (lostRun : Nat) (missing : Bool) : FrontState :=
  if f.state = .running ∧ missing = true ∧ lostRun ≤ min 65535 (f.missingRun + 1) then .linkLost
  else if f.state = .linkLost ∧ missing = false then .running
  else f.state

/-- R37: of the front the link update changes the missing run and the state. -/
theorem State.linkUpdate_front (s : State) (missing : Bool) :
    (s.linkUpdate missing).front =
      { s.front with
        missingRun := s.front.runAfter missing
        state := s.front.stateAfter (s.paramN .smpLostRun) missing } := by
  unfold State.linkUpdate Front.runAfter Front.stateAfter
  cases state : s.front.state <;> cases missing <;> simp [state, satNat, State.paramN, State.param]
  case stopped.false | stopped.true | settling.false | settling.true => rw [← state]
  case running.true => split <;> simp_all

theorem State.linkUpdate_blankingAndRate (s : State) (missing : Bool) :
    (s.linkUpdate missing).trig.blankingAndRate = s.trig.blankingAndRate := by
  unfold State.linkUpdate
  dsimp only
  split
  case h_1 | h_2 => rfl
  case h_3 =>
    split
    · split; exacts [State.frontReport_blankingAndRate .., rfl]
    · rfl
  case h_4 => split; exacts [rfl, State.frontReport_blankingAndRate ..]

/-- R35: a set whose ring write is granted stands newest in the ring, the missing run and the link state follow it, and the Trigger
Unit has its rate (log entry 22). -/
theorem State.finishSet_front (s : State) (r : SetRec) :
    (s.finishSet r).front =
      { s.front with
        ring := (r :: s.front.ring).take 16384
        missingRun := s.front.runAfter r.missing
        state := s.front.stateAfter (s.paramN .smpLostRun) r.missing } := by
  have lostRun : (s.writeRing r).paramN .smpLostRun = s.paramN .smpLostRun := by
    rw [State.paramN, State.param, State.writeRing_settings]
    rfl
  rw [State.finishSet, State.handOver_front, State.linkUpdate_front, lostRun, State.writeRing_front]
  rfl

theorem State.finishSet_blankingAndRate (s : State) (r : SetRec) :
    (s.finishSet r).trig.blankingAndRate = (s.trig.blanking, some s.front.rate) := by
  have window : ((s.writeRing r).linkUpdate r.missing).trig.blanking = s.trig.blanking := by
    have kept := (s.writeRing r).linkUpdate_blankingAndRate r.missing
    rw [State.writeRing_trig] at kept
    exact congrArg Prod.fst kept
  rw [State.finishSet, State.handOver_blankingAndRate, window, State.linkUpdate_front, State.writeRing_front]

/-- R34 to R36, R106: with no older ring write waiting, a set completes as the record of its strobe and frame, and its write waits
behind a burst or is made at once. -/
theorem State.completeSet_of_none_waiting {s : State} (idle : s.front.waiting = none) (o : Strobe) (f : Option Frame)
    (busy : Bool) :
    let r := ringRecord o f (decide (0 < s.trig.blanking))
    let u : State :=
      { s with
        front := { s.front with outstanding := none }
        trig := { s.trig with blanking := s.trig.blanking - 1 } }
    s.completeSet o f busy =
      if busy then { u with front := { u.front with waiting := some r } } else u.finishSet r := by
  have flushed : s.flushRing = s := by simp only [State.flushRing, idle]
  simp only [State.completeSet, flushed, State.askBlanking_eq]

/-- R34: the frame that answers a strobe, when the frame is the expected one and reports no fault. -/
def Frame.answering (f : Frame) (o : Strobe) : Option Frame :=
  if f.sequence = o.expected ∧ f.fault = false then some f else none

/-- R34: a well-formed frame completes the outstanding set, with what it answers of the strobe. -/
theorem State.takeFrame_of_frame {s : State} {o : Strobe} {f : Frame} {bytes : List Byte} {framing : Bool}
    (strobe : s.front.outstanding = some o) (frame : frameOf bytes framing = some f) (busy : Bool) :
    s.takeFrame bytes framing busy = s.completeSet o (f.answering o) busy := by
  simp only [State.takeFrame, strobe, frame, Frame.answering]
  split <;> rfl

/-- R34: without a strobe outstanding, or without a frame, nothing happens. -/
theorem State.takeFrame_of_none {s : State} {bytes : List Byte} {framing : Bool}
    (nothing : s.front.outstanding = none ∨ frameOf bytes framing = none) (busy : Bool) :
    s.takeFrame bytes framing busy = s := by
  unfold State.takeFrame
  rcases nothing with noStrobe | noFrame
  · simp only [noStrobe]
  · rw [noFrame]
    cases s.front.outstanding <;> rfl

/-- R212: a run with a framing error, or of fewer than eleven bytes, is no frame. -/
theorem frameOf_of_malformed {bytes : List Byte} {framing : Bool} (h : framing = true ∨ bytes.length < 11) :
    frameOf bytes framing = none := by
  unfold frameOf
  split
  · rfl
  · next noError =>
    have short : bytes.length < 11 := h.resolve_left noError
    split
    · simp only [List.length_cons] at short
      omega
    · rfl

/-- R212: the frame of eleven bytes. -/
def frameOfEleven (st sq z2 z1 z0 n2 n1 n0 e2 e1 e0 : Byte) : Frame where
  sequence := sq.toNat
  fault := st.getLsbD 3
  clipped := ⟨st.getLsbD 0, st.getLsbD 1, st.getLsbD 2⟩
  sample := ⟨sample24 z2 z1 z0, sample24 n2 n1 n0, sample24 e2 e1 e0⟩

/-- R212: eleven bytes without a framing error are a frame, whatever follows them. -/
theorem frameOf_eleven (st sq z2 z1 z0 n2 n1 n0 e2 e1 e0 : Byte) (rest : List Byte) :
    frameOf (st :: sq :: z2 :: z1 :: z0 :: n2 :: n1 :: n0 :: e2 :: e1 :: e0 :: rest) false =
      some (frameOfEleven st sq z2 z1 z0 n2 n1 n0 e2 e1 e0) := rfl

/-- The record that a frame of eleven bytes gives of a strobe, in the words of R36 and R212. -/
theorem ringRecord_answering (o : Strobe) (f : Frame) (blanked : Bool) :
    let good := decide (f.sequence = o.expected) && !f.fault
    ringRecord o (f.answering o) blanked =
      { index := o.index
        stamp := o.stamp
        sample := if good then f.sample else ⟨0, 0, 0⟩
        missing := !good
        clipped := if good then f.clipped else ⟨false, false, false⟩
        step := o.step
        blanked := blanked } := by
  unfold Frame.answering
  by_cases answers : f.sequence = o.expected ∧ f.fault = false
  · rw [if_pos answers]
    simp [ringRecord, answers.1, answers.2]
  · rw [if_neg answers]
    have bad : (decide (f.sequence = o.expected) && !f.fault) = false := by
      simpa only [Bool.and_eq_false_iff, decide_eq_false_iff_not, Bool.not_eq_false', not_and_or, Bool.not_eq_false]
        using answers
    simp [ringRecord, noAxis, bad]

/-- Settles O26: eleven bytes make a frame, which completes the set (`State.takeFrame_of_frame`) as the record of
`ringRecord_answering`; behind a burst that record waits, and otherwise `State.finishSet_front` and
`State.finishSet_blankingAndRate` say what its ring write and its hand-over leave. -/
theorem frameCompletesSet : Obligations.FrameCompletesSet := by
  refine ⟨fun s bytes framing busy nothing => ?_, ?_⟩
  · have unanswered : s.front.outstanding = none ∨ frameOf bytes framing = none :=
      nothing.imp_right frameOf_of_malformed
    exact congrArg Host.Outcome.next (State.takeFrame_of_none unanswered busy)
  · intro s o st sq z2 z1 z0 n2 n1 n0 e2 e1 e0 rest strobe idle bytes good r
    have frame := frameOf_eleven st sq z2 z1 z0 n2 n1 n0 e2 e1 e0 rest
    have record := ringRecord_answering o (frameOfEleven st sq z2 z1 z0 n2 n1 n0 e2 e1 e0) (decide (0 < s.trig.blanking))
    change ringRecord o _ _ = r at record
    have taken : ∀ busy, exec (.digitizerFrame bytes false busy) s =
        .next (s.completeSet o ((frameOfEleven st sq z2 z1 z0 n2 n1 n0 e2 e1 e0).answering o) busy) :=
      fun busy => congrArg Host.Outcome.next (State.takeFrame_of_frame strobe frame busy)
    simp only [taken, State.completeSet_of_none_waiting idle, record]
    refine ⟨rfl, _, rfl, ?_⟩
    simp only [Bool.false_eq_true, if_false]
    have window := State.finishSet_blankingAndRate
      { s with
        front := { s.front with outstanding := none }
        trig := { s.trig with blanking := s.trig.blanking - 1 } } r
    refine ⟨?_, congrArg Prod.fst window, congrArg Prod.snd window, ?_⟩
    · rw [State.finishSet_front]
      have missing : r.missing = !good := rfl
      simp only [missing, Front.runAfter, Front.stateAfter]
      cases good <;> simp [State.paramN, State.param]
    · simp

end Sys2Proof.Machine
end

section
/-! Writing a parameter into the table (10 §10.2, R204, R205). A relation of R205 is read from either of its two parameters, so that
a rise of the lower one and a fall of the upper one, which push their partners in opposite directions, are one argument. -/

namespace Sys2Proof

/-! ### The parameter table -/

/-- Section 10.1: the parameters stand in the table at their places. -/
theorem Param.all_getElem? (p : Param) : Param.all[p.index]? = some p := by cases p <;> rfl

theorem Param.mem_all (p : Param) : p ∈ Param.all := List.mem_of_getElem? p.all_getElem?

theorem Param.index_lt (p : Param) : p.index < Param.all.length := (List.getElem?_eq_some_iff.1 p.all_getElem?).1

theorem Param.index_inj {p q : Param} : p.index = q.index ↔ p = q :=
  ⟨fun same => Option.some.inj (by rw [← p.all_getElem?, ← q.all_getElem?, same]), congrArg _⟩

/-- Section 10.1: no two parameters share a name. -/
theorem Param.names_nodup : (Param.all.map fun p => p.row.name.toList).Nodup := by decide +kernel

/-! ### Limits (R204) -/

theorem nearest_mem (v : Int) {l : List Int} (some : l ≠ []) : nearest v l ∈ l := by
  induction l with
  | nil => exact absurd rfl some
  | cons x l ih =>
    cases l with
    | nil => exact List.mem_singleton.2 rfl
    | cons y l =>
      unfold nearest
      split
      · exact List.mem_cons_self
      · exact List.mem_cons_of_mem x (ih (List.cons_ne_nil y l))

theorem Param.low_le_high (p : Param) : p.low ≤ p.high := by cases p <;> decide

/-- R204: a limited value lies within the parameter's range. -/
theorem Param.limit_bounds (p : Param) (v : Int) : p.low ≤ p.limit v ∧ p.limit v ≤ p.high := by
  have ordered := p.low_le_high
  unfold Param.limit ParamKind.limit
  unfold Param.low Param.high at *
  split
  case h_1 lo hi kind => simp only [kind] at ordered; unfold clampInt; omega
  case h_2 => unfold clampInt; split <;> omega
  case h_3 =>
    have listed := nearest_mem v (l := [20, 40, 50, 100, 200]) (by decide)
    simp only [List.mem_cons, List.not_mem_nil, or_false] at listed ⊢
    omega
  case h_4 =>
    have listed := nearest_mem v (l := [9600, 19200, 38400, 57600, 115200, 230400]) (by decide)
    simp only [List.mem_cons, List.not_mem_nil, or_false] at listed ⊢
    omega

end Sys2Proof

namespace Sys2Proof.Machine

open Sys2Proof

/-! ### Names and values -/

/-- R204: a parameter's name names it. -/
theorem paramWord_name (q : Param) : paramWord q.row.name.toList = some q := by
  cases found : paramWord q.row.name.toList with
  | none =>
    have unnamed := List.find?_eq_none.1 found q q.mem_all
    simp at unnamed
  | some x =>
    have named : x.row.name.toList = q.row.name.toList := by simpa using List.find?_some found
    exact congrArg some (List.inj_on_of_nodup_map Param.names_nodup x.mem_all q.mem_all named)

/-- R204: a word that is no parameter's name names none. -/
theorem paramWord_eq_none {w : Text} (h : ∀ q : Param, w ≠ q.row.name.toList) : paramWord w = none :=
  List.find?_eq_none.2 fun q _ => by simpa using Ne.symm (h q)

@[simp] theorem Table.length_put (t : Table) (p : Param) (v : Int) : (t.put p v).length = t.length := List.length_set

/-- A value written is read back, and the other values stand. -/
theorem Table.get_put {t : Table} (full : t.length = Param.all.length) (p x : Param) (v : Int) :
    (t.put p v).get x = if x = p then v else t.get x := by
  have place : p.index < t.length := full ▸ p.index_lt
  simp only [Table.get, Table.put, List.getD_eq_getElem?_getD, List.getElem?_set, place, if_true, Param.index_inj,
    eq_comm (a := p)]
  split <;> rfl

theorem TableInv.bounds {t : Table} (h : TableInv t) (p : Param) : p.low ≤ t.get p ∧ t.get p ≤ p.high :=
  h.ranges p ▸ p.limit_bounds (t.get p)

/-! ### The two sides of a relation (R205) -/

/-- A relation of R205 read from one of its parameters: when that one is written its partner may have to move, down where the
written one is the relation's upper parameter and up where it is the lower. -/
structure Side where
  written : Param
  partner : Param
  gap : Int
  down : Bool
  deriving DecidableEq

/-- The two readings of a relation. -/
def Relation.sides (r : Relation) : List Side := [⟨r.upper, r.lower, r.gap, true⟩, ⟨r.lower, r.upper, r.gap, false⟩]

/-- Both readings of every relation. -/
def relationSides : List Side := relations.flatMap Relation.sides

/-- The same relation read from the partner. -/
def Side.reverse (d : Side) : Side := ⟨d.partner, d.written, d.gap, !d.down⟩

/-- A value, measured against the direction in which the partner moves. -/
def Side.against (d : Side) (x : Int) : Int := if d.down then x else -x

/-- The end of a parameter's range in the direction in which the partner moves. -/
def Side.endOf (d : Side) (p : Param) : Int := if d.down then p.low else p.high

/-- The relation, measured against the direction in which the partner moves. -/
def Side.Holds (d : Side) (t : Table) : Prop := d.against (t.get d.partner) + d.gap ≤ d.against (t.get d.written)

/-- A side is a reading of the relation it comes from. -/
theorem Relation.holds_iff {r : Relation} {d : Side} (reading : d ∈ r.sides) (t : Table) :
    r.holds t = true ↔ d.Holds t := by
  rw [Relation.holds, decide_eq_true_eq]
  rcases List.mem_pair.1 reading with rfl | rfl
  · rfl
  · simp only [Side.Holds, Side.against, Bool.false_eq_true, if_false]
    omega

theorem Side.reverse_holds {d : Side} {t : Table} : d.reverse.Holds t ↔ d.Holds t := by
  unfold Side.Holds Side.against Side.reverse
  cases d.down <;> simp <;> omega

theorem Side.against_inj {d : Side} {x y : Int} : d.against x = d.against y ↔ x = y := by
  unfold Side.against
  split <;> omega

/-- What is measured up one way is measured down the other. -/
theorem Side.against_eq_neg {d e : Side} (opposite : e.down = !d.down) (x : Int) : e.against x = -d.against x := by
  unfold Side.against
  cases down : d.down <;> simp [opposite, down]

theorem Side.against_congr {d e : Side} (same : e.down = d.down) (x : Int) : e.against x = d.against x := by
  unfold Side.against
  rw [same]

/-- Of the values in a parameter's range none lies beyond its end. -/
theorem Side.endOf_le {d : Side} {p : Param} {x : Int} (range : p.low ≤ x ∧ x ≤ p.high) :
    d.against (d.endOf p) ≤ d.against x := by
  unfold Side.against Side.endOf
  cases d.down <;> simp <;> omega

theorem TableInv.side_holds {t : Table} (h : TableInv t) {d : Side} (listed : d ∈ relationSides) : d.Holds t := by
  obtain ⟨r, known, reading⟩ := List.mem_flatMap.1 listed
  exact (Relation.holds_iff reading t).1 (h.related r known)

/-! What the relations of R205 are to each other: a parameter has at most one partner in each direction, and a chain, which only the
energy thresholds make, ends at the second partner and never runs out of range. -/

theorem Side.partner_ne_written : ∀ d ∈ relationSides, d.partner ≠ d.written := by decide +kernel

theorem Side.eq_or_opposite : ∀ d ∈ relationSides, ∀ e ∈ relationSides, e.written = d.written → e ≠ d →
    e.down = (!d.down) ∧ e.partner ≠ d.partner ∧ e.partner ≠ d.written
      ∧ d.against (d.endOf d.partner) + d.gap ≤ d.against (d.endOf d.written)
      ∧ ∀ k ∈ relationSides, k.written = d.partner → k = d.reverse := by decide +kernel

theorem Side.eq_reverse_or_chained : ∀ d ∈ relationSides, ∀ e ∈ relationSides, e.written = d.partner → e ≠ d.reverse →
    e.down = d.down ∧ e.partner ≠ d.written ∧ e.against (e.endOf e.partner) + e.gap ≤ d.against (d.endOf d.partner)
      ∧ (∀ k ∈ relationSides, k.written = e.partner → k = e.reverse)
      ∧ (∀ k ∈ relationSides, k.written = d.written → k = d)
      ∧ ∀ k ∈ relationSides, k.written = e.written → k = e ∨ k = d.reverse := by decide +kernel

theorem Side.relation_unique : ∀ r ∈ relations, ∀ k ∈ relations, ∀ d ∈ r.sides, d ∈ k.sides → k = r := by decide +kernel

/-! ### Restoring the relations (R205) -/

/-- Every relation of a parameter holds. -/
def Settled (t : Table) (p : Param) : Prop := ∀ d ∈ relationSides, d.written = p → d.Holds t

/-- A relation that holds, or that the parameter has no part in, moves nothing. -/
theorem Relation.fix_eq_none {r : Relation} {t : Table} {p : Param} (h : ∀ d ∈ r.sides, d.written = p → d.Holds t) :
    r.fix t p = none := by
  have upper : p = r.upper → r.holds t = true := fun e => (holds_iff List.mem_cons_self t).2 (h _ List.mem_cons_self e.symm)
  have lower : p = r.lower → r.holds t = true := fun e =>
    (holds_iff (List.mem_cons_of_mem _ List.mem_cons_self) t).2 (h _ (List.mem_cons_of_mem _ List.mem_cons_self) e.symm)
  unfold Relation.fix
  split
  · rfl
  · next broken => rw [if_neg fun e => broken (upper e), if_neg fun e => broken (lower e)]

theorem restoreWith_eq_self {inner : Table → Param → Table × List Param} {l : List Relation} {t : Table} {p : Param}
    (quiet : ∀ r ∈ l, r.fix t p = none) : restoreWith inner l t p = (t, []) := by
  induction l with
  | nil => rfl
  | cons r l ih =>
    rw [List.forall_mem_cons] at quiet
    simp only [restoreWith, quiet.1, ih quiet.2]

/-- Where one relation of the list is broken and, once its partner has moved and been judged in turn, all of them rest. -/
theorem restoreWith_moved {inner : Table → Param → Table × List Param} {l : List Relation} {r : Relation} {t u w : Table}
    {p q : Param} {m : List Param} (listed : r ∈ l) (others : ∀ k ∈ l, k ≠ r → k.fix t p = none)
    (moves : r.fix t p = some (u, q)) (next : inner u q = (w, m)) (quiet : ∀ k ∈ l, k.fix w p = none) :
    restoreWith inner l t p = (w, q :: m) := by
  induction l with
  | nil => cases listed
  | cons k l ih =>
    rw [List.forall_mem_cons] at others quiet
    by_cases same : k = r
    · rw [same]
      simp only [restoreWith, moves, next, restoreWith_eq_self quiet.2, List.append_nil]
    · have rest : r ∈ l := (List.mem_cons.1 listed).resolve_left (Ne.symm same)
      simp only [restoreWith, others.1 same, ih rest others.2 quiet.2]

theorem Settled.fix_eq_none {t : Table} {p : Param} (h : Settled t p) {r : Relation} (known : r ∈ relations) :
    r.fix t p = none :=
  Relation.fix_eq_none fun d reading => h d (List.mem_flatMap.2 ⟨r, known, reading⟩)

/-- A parameter whose relations hold moves no partner. -/
theorem Settled.restoreDepth {t : Table} {p : Param} (h : Settled t p) (n : Nat) : restoreDepth n t p = (t, []) := by
  cases n with
  | zero => rfl
  | succ n => exact restoreWith_eq_self fun _ => h.fix_eq_none

/-- R205: a broken relation has been mended from one side: the partner is moved, at most to the end of its range, and then the written
value is limited. -/
structure Side.Pushed (d : Side) (t u : Table) : Prop where
  length : u.length = Param.all.length
  written : d.against (u.get d.written) = max (d.against (t.get d.written)) (d.against (d.endOf d.partner) + d.gap)
  partner : d.against (u.get d.partner) = d.against (u.get d.written) - d.gap
  rest : ∀ x, x ≠ d.written → x ≠ d.partner → u.get x = t.get x

/-- Within its range the partner is moved as far as the gap asks. -/
theorem Side.pushed_partner {d : Side} {t : Table} {x : Int} (distinct : d.partner ≠ d.written)
    (full : t.length = Param.all.length) (moved : d.against x = d.against (t.get d.written) - d.gap)
    (reach : d.against (d.endOf d.partner) ≤ d.against x) : d.Pushed t (t.put d.partner x) where
  length := by rw [Table.length_put, full]
  written := by rw [Table.get_put full, if_neg (Ne.symm distinct)]; omega
  partner := by rw [Table.get_put full, Table.get_put full, if_pos rfl, if_neg (Ne.symm distinct), moved]
  rest y _ other := by rw [Table.get_put full, if_neg other]

/-- Beyond its range the partner is moved to the end, and the written value follows. -/
theorem Side.pushed_both {d : Side} {t : Table} {x : Int} (distinct : d.partner ≠ d.written)
    (full : t.length = Param.all.length) (limited : d.against x = d.against (d.endOf d.partner) + d.gap)
    (short : d.against (t.get d.written) - d.gap ≤ d.against (d.endOf d.partner)) :
    d.Pushed t ((t.put d.partner (d.endOf d.partner)).put d.written x) where
  length := by rw [Table.length_put, Table.length_put, full]
  written := by rw [Table.get_put (by rw [Table.length_put, full]), if_pos rfl]; omega
  partner := by
    rw [Table.get_put (by rw [Table.length_put, full]), if_neg distinct, Table.get_put full, if_pos rfl,
      Table.get_put (by rw [Table.length_put, full]), if_pos rfl]
    omega
  rest y self other := by
    rw [Table.get_put (by rw [Table.length_put, full]), if_neg self, Table.get_put full, if_neg other]

/-- A relation that is broken is mended from the side that was written. -/
theorem Relation.fix_pushed {r : Relation} (known : r ∈ relations) {d : Side} (reading : d ∈ r.sides) {t : Table}
    (full : t.length = Param.all.length) (broken : ¬ d.Holds t) :
    ∃ u, r.fix t d.written = some (u, d.partner) ∧ d.Pushed t u := by
  have distinct : d.partner ≠ d.written := Side.partner_ne_written d (List.mem_flatMap.2 ⟨r, known, reading⟩)
  unfold Relation.fix
  rw [if_neg (mt (Relation.holds_iff reading t).1 broken)]
  rcases List.mem_pair.1 reading with rfl | rfl
  · rw [if_pos rfl]
    dsimp only
    split
    next reach => exact ⟨_, rfl, Side.pushed_partner distinct full rfl reach⟩
    next short => exact ⟨_, rfl, Side.pushed_both distinct full rfl (by simp only [Side.against, Side.endOf, if_true] at short ⊢; omega)⟩
  · rw [if_neg (Ne.symm distinct), if_pos rfl]
    dsimp only
    split
    next reach =>
      exact ⟨_, rfl, Side.pushed_partner distinct full (by simp only [Side.against, Bool.false_eq_true, if_false]; omega)
        (by simpa [Side.against, Side.endOf] using reach)⟩
    next short =>
      exact ⟨_, rfl, Side.pushed_both distinct full (by simp only [Side.against, Side.endOf, Bool.false_eq_true, if_false]; omega)
        (by simp only [Side.against, Side.endOf, Bool.false_eq_true, if_false] at short ⊢; omega)⟩

/-- A side just mended holds. -/
theorem Side.Pushed.holds {d : Side} {t u : Table} (h : d.Pushed t u) : d.Holds u := by
  have := h.partner
  unfold Side.Holds
  omega

/-- R205: one broken relation of a parameter is mended, and its partner judged in turn. -/
theorem Side.restoreDepth_moved {d : Side} (listed : d ∈ relationSides) {t : Table} (full : t.length = Param.all.length)
    (broken : ¬ d.Holds t) (others : ∀ e ∈ relationSides, e.written = d.written → e ≠ d → e.Holds t) :
    ∃ u, d.Pushed t u ∧ ∀ n w m, restoreDepth n u d.partner = (w, m) → Settled w d.written →
      restoreDepth (n + 1) t d.written = (w, d.partner :: m) := by
  obtain ⟨r, known, reading⟩ := List.mem_flatMap.1 listed
  obtain ⟨u, moves, pushed⟩ := Relation.fix_pushed known reading full broken
  refine ⟨u, pushed, fun n w m next settled => ?_⟩
  refine restoreWith_moved known (fun k hk other => ?_) moves next fun k hk => settled.fix_eq_none hk
  refine Relation.fix_eq_none fun e he same => others e (List.mem_flatMap.2 ⟨k, hk, he⟩) same ?_
  rintro rfl
  exact other (Side.relation_unique r known k hk e reading he)

/-! ### A value written (R204, R205) -/

/-- R205: the table `w` after the limited value `y` was written into `t` for `q`, with the partners moved, in the order moved. -/
structure Written (t w : Table) (q : Param) (y : Int) (moved : List Param) : Prop where
  length : w.length = Param.all.length
  /-- a partner is moved, to the end of its range at most, and then the written value limited -/
  side : ∀ d ∈ relationSides, d.written = q →
    d.against (w.get q) = max (d.against y) (d.against (d.endOf d.partner) + d.gap)
      ∧ d.against (w.get d.partner) = min (d.against (t.get d.partner)) (d.against (w.get q) - d.gap)
  /-- the partner of a partner moved in turn -/
  chain : ∀ d ∈ relationSides, d.written = q → ∀ e ∈ relationSides, e.written = d.partner → e ≠ d.reverse →
    e.against (w.get e.partner) = min (e.against (t.get e.partner)) (e.against (w.get d.partner) - e.gap)
  free : (∀ d ∈ relationSides, d.written ≠ q) → w.get q = y
  order : moved = [] ∨ ∃ d ∈ relationSides, d.written = q ∧
    (moved = [d.partner]
      ∨ ∃ e ∈ relationSides, e.written = d.partner ∧ e ≠ d.reverse ∧ moved = [d.partner, e.partner])
  kept : ∀ x, x ≠ q → x ∉ moved → w.get x = t.get x

section

variable {t : Table} {q : Param} {y : Int} {d : Side}

/-- Where every relation of the parameter holds with its new value, that value is all that changes. -/
theorem Written.of_settled (h : TableInv t) (settled : Settled (t.put q y) q) : Written t (t.put q y) q y [] := by
  have get := Table.get_put h.length q (v := y)
  refine ⟨by rw [Table.length_put, h.length], fun d listed same => ?_, fun d listed same e chained next other => ?_,
    fun _ => by rw [get, if_pos rfl], .inl rfl, fun x other _ => by rw [get, if_neg other]⟩
  · subst same
    have distinct := Side.partner_ne_written d listed
    have holds := settled d listed rfl
    have range := Side.endOf_le (d := d) (h.bounds d.partner)
    simp only [Side.Holds, get, if_neg distinct, if_true] at holds ⊢
    omega
  · subst same
    have distinct := Side.partner_ne_written d listed
    have far := (Side.eq_reverse_or_chained d listed e chained next other).2.1
    have holds := h.side_holds chained
    rw [Side.Holds, next] at holds
    rw [get, get, if_neg far, if_neg distinct]
    omega

/-- A relation broken by the new value is broken in the direction in which its partner moves. -/
theorem Side.against_lt_of_broken (h : TableInv t) (listed : d ∈ relationSides) (broken : ¬ d.Holds (t.put d.written y)) :
    d.against y < d.against (t.get d.written) := by
  have before := h.side_holds listed
  rw [Side.Holds, Table.get_put h.length, Table.get_put h.length, if_pos rfl,
    if_neg (Side.partner_ne_written d listed)] at broken
  rw [Side.Holds] at before
  omega

/-- Any other relation of the parameter pushes the other way, and the new value keeps it, as does every value between. -/
theorem Side.other_holds (h : TableInv t) (listed : d ∈ relationSides) {u : Table}
    (falls : d.against (u.get d.written) ≤ d.against (t.get d.written)) {e : Side} (known : e ∈ relationSides)
    (same : e.written = d.written) (other : e ≠ d) (still : u.get e.partner = t.get e.partner) : e.Holds u := by
  have opposite := (Side.eq_or_opposite d listed e known same other).1
  have before := h.side_holds known
  rw [Side.Holds, same, Side.against_eq_neg opposite, Side.against_eq_neg opposite] at before
  rw [Side.Holds, same, still, Side.against_eq_neg opposite, Side.against_eq_neg opposite]
  omega

variable {u : Table}

/-- R205: once the partner has moved, every relation of the parameter written holds. -/
theorem Side.Pushed.settled_written (p : d.Pushed (t.put d.written y) u) (h : TableInv t) (listed : d ∈ relationSides)
    (broken : ¬ d.Holds (t.put d.written y)) : Settled u d.written := by
  intro e known same
  by_cases other : e = d
  · exact other ▸ p.holds
  · obtain ⟨-, apart, distinct, -, -⟩ := Side.eq_or_opposite d listed e known same other
    have still : u.get e.partner = t.get e.partner := by
      rw [p.rest _ distinct apart, Table.get_put h.length, if_neg distinct]
    refine Side.other_holds h listed ?_ known same other still
    have falls := Side.against_lt_of_broken h listed broken
    have before := h.side_holds listed
    have range := Side.endOf_le (d := d) (h.bounds d.partner)
    have value := p.written
    rw [Table.get_put h.length, if_pos rfl] at value
    rw [Side.Holds] at before
    omega

/-- R205: the value written and its partner, once that has moved. -/
theorem Side.Pushed.moved (p : d.Pushed (t.put d.written y) u) (h : TableInv t) (listed : d ∈ relationSides)
    (broken : ¬ d.Holds (t.put d.written y)) :
    d.against (u.get d.written) = max (d.against y) (d.against (d.endOf d.partner) + d.gap)
      ∧ d.against (u.get d.partner) = min (d.against (t.get d.partner)) (d.against (u.get d.written) - d.gap) := by
  have value := p.written
  have partner := p.partner
  have range := Side.endOf_le (d := d) (h.bounds d.partner)
  rw [Table.get_put h.length, if_pos rfl] at value
  rw [Side.Holds, Table.get_put h.length, Table.get_put h.length, if_pos rfl,
    if_neg (Side.partner_ne_written d listed)] at broken
  exact ⟨value, by omega⟩

/-- R205: the other relation of the parameter, where it has one, is not reached by a fall or rise that breaks the first. -/
theorem Side.Pushed.side (p : d.Pushed (t.put d.written y) u) (h : TableInv t) (listed : d ∈ relationSides)
    (range : d.written.low ≤ y ∧ y ≤ d.written.high) (broken : ¬ d.Holds (t.put d.written y)) {e : Side}
    (known : e ∈ relationSides) (same : e.written = d.written) :
    e.against (u.get d.written) = max (e.against y) (e.against (e.endOf e.partner) + e.gap)
      ∧ e.against (u.get e.partner) = min (e.against (t.get e.partner)) (e.against (u.get d.written) - e.gap) := by
  have moved := p.moved h listed broken
  by_cases other : e = d
  · exact other ▸ moved
  · obtain ⟨opposite, apart, distinct, reach, -⟩ := Side.eq_or_opposite d listed e known same other
    have exactly : u.get d.written = y := by
      have stays := Side.endOf_le (d := d) range
      exact Side.against_inj.1 (by omega : d.against (u.get d.written) = d.against y)
    have still : u.get e.partner = t.get e.partner := by
      rw [p.rest _ distinct apart, Table.get_put h.length, if_neg distinct]
    have holds := p.settled_written h listed broken e known same
    have back := (Side.eq_or_opposite e known d listed same.symm (Ne.symm other)).2.2.2.1
    have stays := Side.endOf_le (d := e) (p := d.written) range
    rw [Side.Holds, same, exactly] at holds
    rw [same] at back
    rw [still] at holds ⊢
    rw [exactly]
    omega

/-- R205: one partner has moved, and its own relations hold. -/
theorem Written.of_pushed (h : TableInv t) (listed : d ∈ relationSides)
    (range : d.written.low ≤ y ∧ y ≤ d.written.high) (broken : ¬ d.Holds (t.put d.written y))
    (p : d.Pushed (t.put d.written y) u) (settled : Settled u d.partner) : Written t u d.written y [d.partner] := by
  have distinct := Side.partner_ne_written d listed
  refine ⟨p.length, fun e known same => p.side h listed range broken known same,
    fun e known same k chained next other => ?_, fun none => absurd rfl (none d listed),
    .inr ⟨d, listed, rfl, .inl rfl⟩, fun x self moved => ?_⟩
  · have alone : e = d := by
      by_contra apart
      exact other ((Side.eq_or_opposite e known d listed same.symm (Ne.symm apart)).2.2.2.2 k chained next)
    subst alone
    have far := (Side.eq_reverse_or_chained e known k chained next other).2.1
    have holds := settled k chained next
    have still : u.get k.partner = t.get k.partner := by
      rw [p.rest _ far (next ▸ Side.partner_ne_written k chained), Table.get_put h.length, if_neg far]
    rw [Side.Holds, next, still] at holds
    rw [still]
    omega
  · rw [p.rest x self (by simpa using moved), Table.get_put h.length, if_neg self]

/-- R205: the partner of the partner has moved too; the chain ends there. -/
theorem Written.of_pushed_twice (h : TableInv t) (listed : d ∈ relationSides) (broken : ¬ d.Holds (t.put d.written y))
    (p : d.Pushed (t.put d.written y) u) {e : Side} (known : e ∈ relationSides) (next : e.written = d.partner)
    (other : e ≠ d.reverse) (brokenNext : ¬ e.Holds u) {w : Table} (again : e.Pushed u w) :
    Written t w d.written y [d.partner, e.partner] ∧ Settled w e.partner ∧ Settled w d.partner ∧ Settled w d.written := by
  have distinct := Side.partner_ne_written d listed
  have distinctNext := Side.partner_ne_written e known
  obtain ⟨down, far, reach, ends, alone, both⟩ := Side.eq_reverse_or_chained d listed e known next other
  obtain ⟨value, partner⟩ := p.moved h listed broken
  have pushed := p.partner
  have pushedNext := again.partner
  have second := again.written
  rw [next, Side.against_congr down (u.get d.partner)] at second
  have kept : w.get d.written = u.get d.written := again.rest _ (next ▸ Ne.symm distinct) (Ne.symm far)
  have keptPartner : w.get d.partner = u.get d.partner := by
    refine (Side.against_inj (d := d)).1 ?_
    rw [← Side.against_congr down, second]
    omega
  have holds : d.Holds w := by
    have := p.holds
    rwa [Side.Holds, ← kept, ← keptPartner] at this
  have bound := p.rest e.partner far (next ▸ distinctNext)
  rw [Table.get_put h.length, if_neg far] at bound
  refine ⟨⟨again.length, fun k known' same => ?_, fun k known' same m chained chains apart' => ?_,
    fun none => absurd rfl (none d listed),
    .inr ⟨d, listed, rfl, .inr ⟨e, known, next, other, rfl⟩⟩, fun x self moved => ?_⟩, fun k known' same => ?_,
    fun k known' same => ?_, fun k known' same => ?_⟩
  · rw [alone k known' same, kept, keptPartner]
    exact ⟨value, partner⟩
  · rw [alone k known' same] at chains apart' ⊢
    have identical : m = e := (both m chained (chains.trans next.symm)).resolve_right apart'
    subst identical
    rw [Side.Holds, next, bound] at brokenNext
    rw [next, keptPartner] at pushedNext
    rw [keptPartner]
    omega
  · rw [List.mem_cons, List.mem_singleton, not_or] at moved
    rw [again.rest x (next ▸ moved.1) moved.2, p.rest x self moved.1, Table.get_put h.length, if_neg self]
  · rw [ends k known' same]
    exact Side.reverse_holds.2 again.holds
  · rcases both k known' (same.trans next.symm) with rfl | rfl
    · exact again.holds
    · exact Side.reverse_holds.2 holds
  · rw [alone k known' same]
    exact holds

end

/-- R204, R205: what a value given for a parameter makes of a table in order: the limited value with nothing moved, one partner moved,
or the chain of the energy thresholds. -/
theorem Table.write_written {t : Table} (h : TableInv t) (q : Param) (v : Int) :
    Written t (t.write q v).1 q (q.limit v) (t.write q v).2 := by
  have full : (t.put q (q.limit v)).length = Param.all.length := by rw [Table.length_put, h.length]
  unfold Table.write restore
  by_cases settled : Settled (t.put q (q.limit v)) q
  · rw [settled.restoreDepth 3]
    exact Written.of_settled h settled
  obtain ⟨d, listed, rfl, broken⟩ : ∃ d ∈ relationSides, d.written = q ∧ ¬ d.Holds (t.put q (q.limit v)) := by
    simpa only [Settled, not_forall, exists_prop] using settled
  have range := d.written.limit_bounds v
  have others : ∀ e ∈ relationSides, e.written = d.written → e ≠ d → e.Holds (t.put d.written (d.written.limit v)) := by
    intro e known same other
    have apart := (Side.eq_or_opposite d listed e known same other).2.2.1
    have falls := Side.against_lt_of_broken h listed broken
    refine Side.other_holds h listed ?_ known same other (by rw [Table.get_put h.length, if_neg apart])
    rw [Table.get_put h.length, if_pos rfl]
    omega
  obtain ⟨u, pushed, restores⟩ := Side.restoreDepth_moved listed full broken others
  have settledWritten := pushed.settled_written h listed broken
  by_cases settledPartner : Settled u d.partner
  · rw [restores 2 u [] (settledPartner.restoreDepth 2) settledWritten]
    exact Written.of_pushed h listed range broken pushed settledPartner
  obtain ⟨e, known, next, brokenNext⟩ : ∃ e ∈ relationSides, e.written = d.partner ∧ ¬ e.Holds u := by
    simpa only [Settled, not_forall, exists_prop] using settledPartner
  have other : e ≠ d.reverse := by
    rintro rfl
    exact brokenNext (Side.reverse_holds.2 pushed.holds)
  have othersNext : ∀ k ∈ relationSides, k.written = e.written → k ≠ e → k.Holds u := by
    intro k known' same apart
    have back := (Side.eq_reverse_or_chained d listed e known next other).2.2.2.2.2 k known' same
    rw [back.resolve_left apart]
    exact Side.reverse_holds.2 pushed.holds
  obtain ⟨w, again, restoresNext⟩ := Side.restoreDepth_moved known pushed.length brokenNext othersNext
  obtain ⟨written, ended, settledNext, settledFirst⟩ :=
    Written.of_pushed_twice h listed broken pushed known next other brokenNext again
  have inner := restoresNext 1 w [] (ended.restoreDepth 1) (next ▸ settledNext)
  rw [next] at inner
  rw [restores 2 w _ inner settledFirst]
  exact written

end Sys2Proof.Machine
end

section
/-! Ids of alerts (06 §6.1, R116): the id an alert takes is that of no alert held. -/

namespace Sys2Proof.Machine

open Sys2Proof

theorem nextId_range (last : Nat) : 1 ≤ nextId last ∧ nextId last ≤ 65535 := by
  unfold nextId Config.idTop
  split <;> omega

/-- Section 3.3: the ids after one within 1..65,535 go round that range. -/
theorem nextId_iterate {a : Nat} (range : 1 ≤ a ∧ a ≤ 65535) (i : Nat) : nextId^[i] a = (a - 1 + i) % 65535 + 1 := by
  induction i with
  | zero => rw [Function.iterate_zero_apply, Nat.add_zero, Nat.mod_eq_of_lt (by omega)]; omega
  | succ i ih =>
    rw [Function.iterate_succ_apply', ih]
    unfold nextId Config.idTop
    split <;> omega

/-- Section 3.3: the ids after any one come round no sooner than after 65,535 of them. -/
theorem nextId_iterate_injOn (last : Nat) {i j : Nat} (hi : i < 65535) (hj : j < 65535)
    (same : nextId^[i + 1] last = nextId^[j + 1] last) : i = j := by
  rw [Function.iterate_succ_apply, Function.iterate_succ_apply, nextId_iterate (nextId_range last),
    nextId_iterate (nextId_range last)] at same
  have range := nextId_range last
  omega

/-- R75, R116: a candidate in use is taken only where all the candidates are. -/
theorem used_of_firstFree_used {used : Nat → Bool} {fuel last : Nat} (taken : used (firstFree used fuel last) = true) :
    ∀ i ≤ fuel, used (nextId^[i + 1] last) = true := by
  induction fuel generalizing last with
  | zero =>
    intro i hi
    rwa [Nat.le_zero.1 hi]
  | succ fuel ih =>
    unfold firstFree at taken
    split at taken
    next passed =>
      intro i hi
      cases i with
      | zero => exact passed
      | succ i => exact ih taken i (Nat.le_of_succ_le_succ hi)
    next free => exact absurd taken free

/-- R75, R116: with more candidates than ids in use, the id taken is in no use. -/
theorem firstFree_unused {used : Nat → Bool} {ids : List Nat} {fuel : Nat} (listed : ∀ n, used n = true → n ∈ ids)
    (enough : ids.length ≤ fuel) (few : fuel < 65535) (last : Nat) : used (firstFree used fuel last) = false := by
  by_contra taken
  rw [Bool.not_eq_false] at taken
  have all := used_of_firstFree_used taken
  have distinct : ((List.range (fuel + 1)).map fun i => nextId^[i + 1] last).Nodup := by
    refine List.Nodup.map_on (fun i hi j hj same => ?_) List.nodup_range
    rw [List.mem_range] at hi hj
    exact nextId_iterate_injOn last (by omega) (by omega) same
  have among : ((List.range (fuel + 1)).map fun i => nextId^[i + 1] last) ⊆ ids := by
    intro n hn
    obtain ⟨i, hi, rfl⟩ := List.mem_map.1 hn
    exact listed _ (all i (by rw [List.mem_range] at hi; omega))
  have counted := (List.subperm_of_subset distinct among).length_le
  rw [List.length_map, List.length_range] at counted
  omega

/-- R116: no alert of a queue within its bound bears the id that the next alert takes. -/
theorem AlertQueue.id_ne_freshId {q : AlertQueue} (bound : q.alerts.length ≤ 16) {x : Alert} (held : x ∈ q.alerts) :
    x.id ≠ q.freshId := by
  have free : (q.alerts.any fun x => decide (x.id = q.freshId)) = false := by
    refine firstFree_unused (used := fun n => q.alerts.any fun x => decide (x.id = n)) (fuel := Config.queuePlaces + 1)
      (ids := q.alerts.map fun x => x.id) (fun n used => ?_) ?_ (by decide) q.lastId
    · obtain ⟨y, listed, named⟩ := List.any_eq_true.1 used
      exact List.mem_map.2 ⟨y, listed, of_decide_eq_true named⟩
    · rw [List.length_map]
      exact Nat.le_succ_of_le bound
  simpa using List.any_eq_false.1 free x held

end Sys2Proof.Machine
end

section
/-! The close of an event (03 §3.7, 04 §4.4, 05 §5.2, 06 §6.3; R63, R83, R99, R124): what it leaves of the record, of the record's
job and of the queue, whichever command closes the event. -/

namespace Sys2Proof.Machine

open Sys2Proof

/-! ### What the end of a job and the alerts leave of records and ports -/

/-- A record without what its capture, its alert link and its pins say: the part of it that the event itself writes. -/
def Record.story (r : Record) : Record :=
  { r with
    onsetStamp := none
    flags := { r.flags with prerollShort := false, long := false, truncated := false, noCapture := false }
    capture := .none
    blocks := []
    link := .none
    pins := 0 }

/-- The records as their events wrote them. -/
def State.stories (s : State) : List Record := s.cat.records.map Record.story

/-- A port without its attention causes. -/
def PortRec.wire (r : PortRec) : PortRec := { r with pending := [], presented := none }

/-- The ports without their attention causes. -/
def State.wires (s : State) : PerPort PortRec := ⟨s.port.a.wire, s.port.b.wire⟩

/-- What alerts and ends of jobs leave alone: the records as their events wrote them, and the ports but for their causes. -/
def State.outline (s : State) : List Record × PerPort PortRec := (s.stories, s.wires)

theorem map_mapWhere {α β : Type} {g : α → β} {f : α → α} (kept : ∀ x, g (f x) = g x) (sel : α → Bool) (l : List α) :
    (mapWhere sel f l).map g = l.map g := by
  rw [mapWhere, List.map_map]
  refine List.map_congr_left fun x _ => ?_
  rw [Function.comp_apply]
  split
  · exact kept x
  · rfl

/-- R196, R197: a cause raised toward a port changes the causes of that port alone. -/
@[simp] theorem State.raise_outline (s : State) (p : Port) (c : Attn) : (s.raise p c).outline = s.outline := by
  have attention : ∀ (r : PortRec) (mask : Nat), (r.take mask c).present.wire = r.wire := by
    intro r mask
    unfold PortRec.present PortRec.take
    split <;> split <;> rfl
  cases p <;> simp [State.outline, State.wires, State.stories, PerPort.set, PerPort.get, attention]

@[simp] theorem State.raiseBoth_outline (s : State) (c : Attn) : (s.raiseBoth c).outline = s.outline := by
  rw [State.raiseBoth, State.raise_outline, State.raise_outline]

theorem State.updateRecord_outline {f : Record → Record} (kept : ∀ r, (f r).story = r.story) (s : State) (id : Nat) :
    (s.updateRecord id f).outline = s.outline :=
  Prod.ext (map_mapWhere kept _ _) rfl

@[simp] theorem State.linkReport_outline (s : State) (event : Option Nat) (l : Link) :
    (s.linkReport event l).outline = s.outline := by
  cases event with
  | none => rfl
  | some id => exact Prod.ext (map_mapWhere (fun _ => by rfl) _ _) rfl

@[simp] theorem State.judgeWaiting_outline (s : State) : s.judgeWaiting.outline = s.outline := by
  unfold State.judgeWaiting
  split
  · exact s.raiseBoth_outline _
  · rfl

@[simp] theorem State.place_outline (s : State) (x : Alert) : (s.place x).outline = s.outline :=
  State.linkReport_outline _ _ _

@[simp] theorem State.dropHeld_outline (s : State) (x : Alert) : (s.dropHeld x).outline = s.outline :=
  State.linkReport_outline _ x.event .lost

@[simp] theorem State.dropNew_outline (s : State) (x : Alert) : (s.dropNew x).outline = s.outline :=
  State.linkReport_outline s x.event .lost

/-- R119: an alert that joins, or is dropped, reaches no more of a record than its link. -/
@[simp] theorem State.join_outline (s : State) (x : Alert) : (s.join x).outline = s.outline := by
  unfold State.join
  split <;> simp

@[simp] theorem State.post_outline (s : State) (c : Cause) : (s.post c).outline = s.outline := by
  unfold State.post State.postAs
  split
  · rfl
  · exact s.join_outline _

@[simp] theorem State.closeAlert_outline (s : State) (q : Summary) : (s.closeAlert q).outline = s.outline := by
  unfold State.closeAlert
  split
  · rfl
  · dsimp only
    split
    · split
      · rfl
      · split <;> rfl
    · exact s.join_outline _
    all_goals
      split
      · exact s.join_outline _
      · rfl

@[simp] theorem State.settleJob_outline (s : State) (n : Nat) : (s.settleJob n).outline = s.outline := by
  unfold State.settleJob
  split
  · rfl
  · split
    · split
      · rfl
      · split
        · split
          · rfl
          · exact State.post_outline _ _
        · rfl
    · rfl

@[simp] theorem State.handOutTo_outline (s : State) (l : List Nat) : (s.handOutTo l).outline = s.outline := by
  induction l generalizing s with
  | nil => rfl
  | cons n l ih =>
    rw [State.handOutTo, ih]
    split
    · split
      · exact s.settleJob_outline n
      · rfl
    · rfl

@[simp] theorem State.joinBlocks_outline (s : State) (blocks : List Nat) : (s.joinBlocks blocks).outline = s.outline :=
  State.handOutTo_outline _ _

@[simp] theorem State.reportBlock_outline (s : State) (id : Nat) (b : Block) : (s.reportBlock id b).outline = s.outline :=
  State.updateRecord_outline (fun _ => by rfl) s id

@[simp] theorem State.reportEnd_outline (s : State) (id : Nat) (o : JobEnd) : (s.reportEnd id o).outline = s.outline := by
  rw [State.reportEnd, State.raiseBoth_outline]
  exact State.updateRecord_outline
    (fun r => by cases o <;> simp [Record.story, RecFlags.add, JobEnd.flags, RecFlags.none]) s id

/-- R104: the end of a job writes no more of a record than its capture. -/
@[simp] theorem State.endJob_outline (s : State) (n : Nat) (o : JobEnd) : (s.endJob n o).outline = s.outline := by
  unfold State.endJob
  split
  · rfl
  · rw [State.reportEnd_outline]
    split
    · rfl
    · split
      · exact State.joinBlocks_outline _ _
      · exact State.reportBlock_outline _ _ _

/-- R99: so does the end index handed to the record's job. -/
@[simp] theorem State.handEnd_outline (s : State) (record stop : Nat) : (s.handEnd record stop).outline = s.outline := by
  unfold State.handEnd
  split
  · rfl
  · dsimp only
    split
    · exact State.endJob_outline _ _ _
    · exact State.settleJob_outline _ _

/-- R83, R99: so a handed end index leaves the records as their events wrote them. -/
theorem State.handEnd_stories (s : State) (record stop : Nat) : (s.handEnd record stop).stories = s.stories :=
  congrArg Prod.fst (s.handEnd_outline record stop)

theorem State.closeAlert_stories (s : State) (q : Summary) : (s.closeAlert q).stories = s.stories :=
  congrArg Prod.fst (s.closeAlert_outline q)

/-! ### The jobs (R99) -/

/-- A job without its block and its state, which are what settling changes. -/
def Job.course (j : Job) : Job := { j with current := none, state := .waitingData }

/-- The jobs, without their blocks and states. -/
def State.courses (s : State) : List Job := s.store.jobs.map Job.course

theorem State.updateJob_courses {f : Job → Job} (kept : ∀ j, (f j).course = j.course) (s : State) (n : Nat) :
    (s.updateJob n f).courses = s.courses :=
  map_mapWhere kept _ _

@[simp] theorem State.settleJob_courses (s : State) (n : Nat) : (s.settleJob n).courses = s.courses := by
  unfold State.settleJob
  split
  · rfl
  · split
    · split
      · exact State.updateJob_courses (fun _ => by rfl) _ n
      · split
        · split
          · rfl
          · rw [State.courses, State.post_store]
            exact State.updateJob_courses (fun _ => by rfl) s n
        · exact State.updateJob_courses (fun _ => by rfl) _ n
    · exact State.updateJob_courses (fun _ => by rfl) _ n

@[simp] theorem State.handOutTo_courses (s : State) (l : List Nat) : (s.handOutTo l).courses = s.courses := by
  induction l generalizing s with
  | nil => rfl
  | cons n l ih =>
    rw [State.handOutTo, ih]
    split
    · split
      · exact s.settleJob_courses n
      · rfl
    · rfl

/-- R104: the job that ends leaves the table, and the others go on their course. -/
theorem State.endJob_courses (s : State) (n : Nat) (o : JobEnd) :
    (s.endJob n o).courses = (s.store.jobs.filter fun k => decide (k.number ≠ n)).map Job.course := by
  unfold State.endJob
  split
  next absent =>
    have all : s.store.jobs.filter (fun k => decide (k.number ≠ n)) = s.store.jobs :=
      List.filter_eq_self.2 fun k held => by simpa using List.find?_eq_none.1 absent k held
    rw [all]
    rfl
  · rw [State.courses, State.reportEnd_store]
    split
    · rfl
    · split
      · exact State.handOutTo_courses _ _
      · rfl

theorem Job.course_eq {j k : Job} (same : j.course = k.course) :
    j.number = k.number ∧ j.record = k.record ∧ j.stop = k.stop ∧ j.next = k.next := by
  simp only [Job.course, Job.mk.injEq] at same
  obtain ⟨number, -, record, -, next, stop, -⟩ := same
  exact ⟨number, record, stop, next⟩

/-- R99: the record's job, if it goes on, has its end index and is not done. -/
theorem State.handEnd_jobs {s : State} (one : (s.store.jobs.map fun j => j.record).Nodup) (id stop : Nat) :
    ∀ k ∈ (s.handEnd id stop).store.jobs, k.record = id → k.stop = some stop ∧ idxLt stop k.next = false := by
  intro k held named
  unfold State.handEnd at held
  split at held
  next absent =>
    have unnamed := List.find?_eq_none.1 absent k held
    simp [named] at unnamed
  next j found =>
    have owner : j.record = id := by simpa using List.find?_some found
    have only : ∀ i ∈ s.store.jobs, i.record = id → i = j := fun i hi e =>
      List.inj_on_of_nodup_map one hi (List.mem_of_find?_eq_some found) (e.trans owner.symm)
    have origin : ∀ i ∈ (s.updateJob j.number fun j => { j with stop := some stop }).store.jobs, i.record = id →
        i = { j with stop := some stop } := by
      intro i hi e
      rw [State.updateJob_jobs, mapWhere] at hi
      obtain ⟨i', known, rfl⟩ := List.mem_map.1 hi
      split at e
      next => rw [only i' known e]; simp
      next apart => exact absurd (congrArg Job.number (only i' known e)) (by simpa using apart)
    dsimp only at held
    split at held
    next done =>
      have traced := List.mem_map_of_mem (f := Job.course) held
      rw [← State.courses, State.endJob_courses] at traced
      obtain ⟨i, kept, same⟩ := List.mem_map.1 traced
      obtain ⟨known, apart⟩ := List.mem_filter.1 kept
      have ended := origin i known ((Job.course_eq same).2.1.trans named)
      rw [ended] at apart
      simp at apart
    next going =>
      have traced := List.mem_map_of_mem (f := Job.course) held
      rw [← State.courses, State.settleJob_courses] at traced
      obtain ⟨i, known, same⟩ := List.mem_map.1 traced
      obtain ⟨-, record, stops, next⟩ := Job.course_eq same
      have goes := origin i known (record.trans named)
      rw [← stops, ← next, goes]
      exact ⟨rfl, by simpa [Job.done] using going⟩

/-! ### The queue while the end index is handed (R95, R99, R100) -/

/-- What handing an end index may do to the queue: an alert of a cause joins it or gains a repeat; the quake alerts stand, each under an
id of its own. -/
structure AlertQueue.Grown (q g : AlertQueue) : Prop where
  track : g.track = q.track
  length : g.alerts.length ≤ q.alerts.length + 1
  kept : ∀ y ∈ q.alerts, y.cause = none → y ∈ g.alerts
  unique : ∀ y ∈ q.alerts, y.cause = none → ∀ z ∈ g.alerts, z.id = y.id → z = y
  idle : (∀ z ∈ q.alerts, z.transit = none) → ∀ z ∈ g.alerts, z.transit = none

/-- An alert of a quake is still found under its id. -/
theorem AlertQueue.Grown.find {q g : AlertQueue} (h : q.Grown g) {y : Alert} (held : y ∈ q.alerts) (quake : y.cause = none) :
    g.find y.id = some y := by
  have stands := h.kept y held quake
  cases search : g.find y.id with
  | none => simpa using List.find?_eq_none.1 search y stands
  | some z =>
    have named : z.id = y.id := by simpa using List.find?_some search
    rw [h.unique y held quake z (List.mem_of_find?_eq_some search) named]

section

variable {s : State} (ids : (s.alerts.alerts.map fun x => x.id).Nodup) (room : s.alerts.alerts.length < 16)

include ids

theorem AlertQueue.grown_self : s.alerts.Grown s.alerts where
  track := rfl
  length := Nat.le_succ _
  kept _ held _ := held
  unique _ held _ _ other same := List.inj_on_of_nodup_map ids other held same
  idle none := none

/-- R118: an alert of a cause held already gains a repeat. -/
theorem AlertQueue.grown_repeated (c : Cause) : s.alerts.Grown (s.alerts.repeated c) where
  track := rfl
  length := by simp [AlertQueue.repeated, mapWhere]
  kept y held quake := List.mem_map.2 ⟨y, held, by simp [quake]⟩
  unique y held quake z other same := by
    obtain ⟨x, known, rfl⟩ := List.mem_map.1 other
    have named : x = y := List.inj_on_of_nodup_map ids known held (by rw [← same]; split <;> rfl)
    simp [named, quake]
  idle none z other := by
    obtain ⟨x, known, rfl⟩ := List.mem_map.1 other
    split <;> exact none x known

include room

/-- R116, R117: an alert of a cause joins under an id that none of the others bears. -/
theorem AlertQueue.grown_place {x : Alert} (queued : x.transit = none) : s.alerts.Grown (s.place x).alerts := by
  unfold State.place
  rw [State.linkReport_alerts]
  refine ⟨rfl, (insertAlert_length _ _).le, fun y held _ => mem_insertAlert.2 (.inr held),
    fun y held _ z other same => ?_, fun none z other => ?_⟩
  · rcases mem_insertAlert.1 other with rfl | known
    · exact absurd same.symm (AlertQueue.id_ne_freshId room.le held)
    · exact List.inj_on_of_nodup_map ids known held same
  · rcases mem_insertAlert.1 other with rfl | known
    · exact queued
    · exact none z known

/-- R118: a cause posted into a queue with room. -/
theorem State.post_grown (c : Cause) : s.alerts.Grown (s.post c).alerts := by
  unfold State.post State.postAs
  split
  · exact AlertQueue.grown_repeated ids c
  · rw [State.join_room room, State.judgeWaiting_alerts]
    exact AlertQueue.grown_place ids room rfl

/-- R100: of the queue a job that settles changes no more than BLOCKS_EXHAUSTED does. -/
theorem State.settleJob_grown (n : Nat) : s.alerts.Grown (s.settleJob n).alerts := by
  unfold State.settleJob
  split
  · exact AlertQueue.grown_self ids
  · split
    · split
      · exact AlertQueue.grown_self ids
      · split
        · split
          · exact AlertQueue.grown_self ids
          · exact State.post_grown (s := s.updateJob n fun j => { j with state := .waitingBlock }) ids room _
        · exact AlertQueue.grown_self ids
    · exact AlertQueue.grown_self ids

end

/-- R95: a job that is handed a block posts nothing. -/
theorem State.settleJob_alerts_of_free {s : State} (free : s.store.free ≠ []) (n : Nat) :
    (s.settleJob n).alerts = s.alerts := by
  unfold State.settleJob
  split
  · rfl
  · split
    · split
      · rfl
      · split
        next empty => exact absurd empty free
        next => rfl
    · rfl

@[simp] theorem State.handOutTo_alerts (s : State) (l : List Nat) : (s.handOutTo l).alerts = s.alerts := by
  induction l generalizing s with
  | nil => rfl
  | cons n l ih =>
    rw [State.handOutTo, ih]
    split
    · split
      next waits => exact State.settleJob_alerts_of_free waits.2 n
      next => rfl
    · rfl

/-- R104: the end of a job posts nothing. -/
theorem State.endJob_alerts (s : State) (n : Nat) (o : JobEnd) : (s.endJob n o).alerts = s.alerts := by
  unfold State.endJob
  split
  · rfl
  · rw [State.reportEnd_alerts]
    split
    · rfl
    · split
      · exact State.handOutTo_alerts _ _
      · rfl

/-- R99, R100: the end index handed to a job, with room in the queue. -/
theorem State.handEnd_grown {s : State} (ids : (s.alerts.alerts.map fun x => x.id).Nodup)
    (room : s.alerts.alerts.length < 16) (record stop : Nat) : s.alerts.Grown (s.handEnd record stop).alerts := by
  unfold State.handEnd
  split
  · exact AlertQueue.grown_self ids
  next j _ =>
    dsimp only
    split
    · rw [State.endJob_alerts]
      exact AlertQueue.grown_self ids
    · exact State.settleJob_grown (s := s.updateJob j.number fun j => { j with stop := some stop }) ids room _

/-! ### The alert of a close (R116, R120, R124, R133) -/

theorem State.qualifies_of {s : State} {v : Severity} (h : s.Qualifies v) : s.qualifies v = true := by
  unfold State.qualifies
  cases v with
  | routine => exact decide_eq_true (h.resolve_left fun ne => ne rfl)
  | notable | urgent => rfl

/-- R133: with an alert QUEUED and none in transit, ALERT_WAITING is raised. -/
theorem State.raised_judgeWaiting {s : State} {y : Alert} (held : y ∈ s.alerts.alerts)
    (idle : ∀ z ∈ s.alerts.alerts, z.transit = none) (p : Port) : s.judgeWaiting.Raised p .alertWaiting := by
  have head : s.alerts.head.isSome = true := List.find?_isSome.2 ⟨y, held, by simp [idle y held]⟩
  have transit : s.alerts.inTransit = none := List.find?_eq_none.2 fun z hz => by simp [idle z hz]
  unfold State.judgeWaiting
  rw [head, transit]
  exact s.raised_raiseBoth p .alertWaiting

/-- R120: an EVENT record has the link reported under its id. -/
theorem State.link_of_linkReport {s : State} {event : Option Nat} {l : Link} {id : Nat} (named : event = some id) {x : Record}
    (held : x ∈ (s.linkReport event l).cat.records) (same : x.id = id) (kind : x.kind = .event) : x.link = l := by
  subst named
  obtain ⟨y, -, rfl⟩ := List.mem_map.1 held
  dsimp only at same kind ⊢
  by_cases sel : decide (y.id = id ∧ y.kind = .event) = true
  · rw [if_pos sel]
  · rw [if_neg sel] at same kind
    exact absurd (decide_eq_true ⟨same, kind⟩) sel

/-- R116, R120, R133: a quake alert joins a queue with room. -/
theorem State.join_newQuake {s : State} (room : s.alerts.alerts.length < 16) (event : Option Nat) (v : Severity) (q : Summary) :
    ∃ y, s.NewQuake (s.join (s.newAlert none v event (some q) [])) event v q y := by
  rw [State.join_room room]
  refine ⟨{ s.newAlert none v event (some q) [] with id := s.alerts.freshId, joined := s.alerts.nextJoin }, ?_⟩
  have held : { s.newAlert none v event (some q) [] with id := s.alerts.freshId, joined := s.alerts.nextJoin }
      ∈ (s.place (s.newAlert none v event (some q) [])).alerts.alerts := by
    unfold State.place
    rw [State.linkReport_alerts]
    exact mem_insertAlert.2 (.inl rfl)
  refine ⟨by rw [State.judgeWaiting_alerts]; exact held, ⟨rfl, rfl, rfl, rfl, rfl, rfl⟩, ⟨rfl, rfl, rfl, rfl, rfl, rfl⟩,
    fun id named x known same kind => ?_, fun idle p => State.raised_judgeWaiting held (fun z other => ?_) p⟩
  · rw [State.judgeWaiting_cat] at known
    exact State.link_of_linkReport named known same kind
  · unfold State.place at other
    rw [State.linkReport_alerts] at other
    rcases mem_insertAlert.1 other with rfl | known
    · rfl
    · exact idle z known

/-- A new quake alert, seen from an earlier state of the same moment and in a later state with the same queue and records. -/
theorem State.NewQuake.transfer {s u t t' : State} {event : Option Nat} {v : Severity} {q : Summary} {y : Alert}
    (h : u.NewQuake t event v q y) (tb : u.tb = s.tb) (ttl : u.ttl v = s.ttl v)
    (idle : (∀ z ∈ s.alerts.alerts, z.transit = none) → ∀ z ∈ u.alerts.alerts, z.transit = none)
    (alerts : t'.alerts.alerts = t.alerts.alerts) (cat : t'.cat = t.cat)
    (raised : ∀ p, t.Raised p .alertWaiting → t'.Raised p .alertWaiting) : s.NewQuake t' event v q y := by
  have stamp : u.stamp = s.stamp := by simp only [State.stamp, tb]
  obtain ⟨held, content, fresh, linked, waiting⟩ := h
  rw [stamp, tb, ttl] at fresh
  exact ⟨alerts ▸ held, content, fresh, fun id named x known => linked id named x (cat ▸ known),
    fun none p => raised p (waiting (idle none) p)⟩

@[simp] theorem State.closeAlert_track (s : State) (q : Summary) : (s.closeAlert q).alerts.track = none := by
  unfold State.closeAlert
  split
  · assumption
  · rfl

section

variable {u : State} {k : Track} (track : u.alerts.track = some k) (q : Summary)

include track

/-- R124: with no alert of the event held and its severity qualifying, a final alert joins. -/
theorem State.closeAlert_of_none (state : k.state = .none ∨ k.state = .lost)
    (qualifies : u.qualifies (u.quakeSeverity q.peak) = true) :
    let j := u.join (u.newAlert none (u.quakeSeverity q.peak) k.event (some { q with revision := 0 }) [])
    u.closeAlert q = { j with alerts := { j.alerts with track := none } } := by
  unfold State.closeAlert
  rcases state with state | state <;> simp [track, state, qualifies]

/-- R124: after a delivery a revision joins. -/
theorem State.closeAlert_of_delivered {n : Nat} (state : k.state = .delivered n) :
    let j := u.join (u.newAlert none (u.quakeSeverity q.peak) k.event (some { q with revision := n + 1 }) [])
    u.closeAlert q = { j with alerts := { j.alerts with track := none } } := by
  unfold State.closeAlert
  simp [track, state]

/-- R124, R125: a QUEUED alert takes the final summary and keeps its revision number. -/
theorem State.revised_mem_closeAlert {y : Alert} (state : k.state = .alert y.id) (found : u.alerts.find y.id = some y)
    (queued : y.transit = none) :
    { y with
      quake := some { q with revision := (y.quake.map fun q => q.revision).getD 0 }
      severity := u.quakeSeverity q.peak
      pending := none } ∈ (u.closeAlert q).alerts.alerts := by
  unfold State.closeAlert
  simp only [track, state, found, queued, reviseAlert]
  exact mem_insertAlert.2 (.inl rfl)

/-- R124: an alert IN_TRANSIT takes the final summary as a pending revision. -/
theorem State.pending_mem_closeAlert {y : Alert} (state : k.state = .alert y.id) (found : u.alerts.find y.id = some y)
    (transit : y.transit ≠ none) :
    { y with pending := some ⟨q, u.quakeSeverity q.peak⟩ } ∈ (u.closeAlert q).alerts.alerts := by
  obtain ⟨p, bound⟩ := Option.ne_none_iff_exists'.1 transit
  unfold State.closeAlert
  simp only [track, state, found, bound]
  exact List.mem_map.2 ⟨y, List.mem_of_find?_eq_some found, by simp [bound]⟩

end

/-- The parameters that a close of an event does not read, a SET of which may bring one about (R57, R66). -/
def closingParams : List Param := [.trigEnable, .trigDcShift, .trigStaShift, .trigLtaShift]

/-- R121: the severity of a quake reads none of the parameters whose SET may close the event. -/
theorem State.quakeSeverity_congr {s u : State} (h : ∀ p, p ∉ closingParams → u.param p = s.param p) :
    u.quakeSeverity = s.quakeSeverity := by
  funext peak
  unfold State.quakeSeverity State.weighedPeak State.paramN
  rw [h .alrUrgent (by decide), h .alrNotable (by decide), h .trigWeightZ (by decide), h .trigWeightN (by decide),
    h .trigWeightE (by decide)]

/-- Nor do the times to live. -/
theorem State.ttl_congr {s u : State} (h : ∀ p, p ∉ closingParams → u.param p = s.param p) : u.ttl = s.ttl := by
  funext v
  simp only [State.ttl, State.paramN, h .alrTtlRoutine (by decide), h .alrTtlNotable (by decide),
    h .alrTtlUrgent (by decide)]

/-! ### The close (R63) -/

/-- R63, R83, R99: the event `c` as far as its close reaches the Catalogue and the Capture Engine. -/
def State.handedClose (s : State) (c : EventCtx) (forced interrupted : Bool) : State :=
  let stop := s.front.newest.getD c.openIndex
  match c.record with
  | some id => (s.reportClose id c stop (idxSub stop c.onset.index + 1) forced interrupted).handEnd id stop
  | none => s

/-- The final summary of an event that closes now. -/
def State.finalSummary (s : State) (c : EventCtx) (forced interrupted : Bool) : Summary :=
  c.summary (some (idxSub (s.front.newest.getD c.openIndex) c.onset.index + 1)) forced interrupted true

/-- R63: the close is told to the Catalogue and the Capture Engine, then to the Alert Queue, and the context is discarded. -/
theorem State.closeEvent_eq {s : State} {c : EventCtx} (event : s.trig.event = some c) (forced interrupted : Bool) :
    let u := (s.handedClose c forced interrupted).closeAlert (s.finalSummary c forced interrupted)
    s.closeEvent forced interrupted true = { u with trig := { u.trig with event := none, countdown := none } } := by
  unfold State.closeEvent State.handedClose
  simp only [event]
  cases c.record <;> rfl

@[simp] theorem State.handedClose_tb (s : State) (c : EventCtx) (f i : Bool) : (s.handedClose c f i).tb = s.tb := by
  unfold State.handedClose
  split <;> simp

@[simp] theorem State.handedClose_settings (s : State) (c : EventCtx) (f i : Bool) :
    (s.handedClose c f i).settings = s.settings := by
  unfold State.handedClose
  split <;> simp

theorem State.handedClose_grown {s : State} (ids : (s.alerts.alerts.map fun x => x.id).Nodup)
    (room : s.alerts.alerts.length < 16) (c : EventCtx) (f i : Bool) : s.alerts.Grown (s.handedClose c f i).alerts := by
  unfold State.handedClose
  split
  · exact State.handEnd_grown (s := s.reportClose _ c _ _ f i) ids room _ _
  · exact AlertQueue.grown_self ids

/-- R83: the record of the event, as the close leaves its story. -/
theorem State.handedClose_record {s : State} {c : EventCtx} {id : Nat} (record : c.record = some id) (f i : Bool) {x : Record}
    (held : x.story ∈ (s.handedClose c f i).stories) (named : x.id = id) :
    let stop := s.front.newest.getD c.openIndex
    x.state = .closed ∧ x.closeIndex = some stop ∧ x.duration = some (idxSub stop c.onset.index + 1)
    ∧ x.peak = some c.peak ∧ x.ratio = some c.ratio ∧ x.triggered = some c.triggered ∧ x.voting = some c.voting
    ∧ x.severity = some (s.quakeSeverity c.peak)
    ∧ ∃ y ∈ s.cat.records, y.id = id ∧ x.flags.clipped = (y.flags.clipped || c.clipped)
      ∧ x.flags.blankedDuring = (y.flags.blankedDuring || c.blanked)
      ∧ x.flags.forced = (y.flags.forced || f) ∧ x.flags.interrupted = (y.flags.interrupted || i) := by
  unfold State.handedClose at held
  simp only [record, State.handEnd_stories] at held
  obtain ⟨z, closed, same⟩ := List.mem_map.1 held
  obtain ⟨y, known, rfl⟩ := List.mem_map.1 closed
  dsimp only at same
  by_cases sel : decide (y.id = id) = true
  · rw [if_pos sel] at same
    exact ⟨(congrArg Record.state same).symm, (congrArg Record.closeIndex same).symm, (congrArg Record.duration same).symm,
      (congrArg Record.peak same).symm, (congrArg Record.ratio same).symm, (congrArg Record.triggered same).symm,
      (congrArg Record.voting same).symm, (congrArg Record.severity same).symm, y, known, of_decide_eq_true sel,
      (congrArg (fun r => r.flags.clipped) same).symm, (congrArg (fun r => r.flags.blankedDuring) same).symm,
      (congrArg (fun r => r.flags.forced) same).symm, (congrArg (fun r => r.flags.interrupted) same).symm⟩
  · rw [if_neg sel] at same
    exact absurd (decide_eq_true ((congrArg Record.id same).trans named)) sel

/-- R63: a close changes no more of the ports than their causes. -/
theorem State.closeEvent_wires (s : State) (forced interrupted : Bool) :
    (s.closeEvent forced interrupted true).wires = s.wires := by
  cases event : s.trig.event with
  | none =>
    unfold State.closeEvent
    rw [event]
  | some c =>
    rw [State.closeEvent_eq event]
    refine (congrArg Prod.snd (State.closeAlert_outline _ _)).trans ?_
    unfold State.handedClose
    split
    next id _ => exact congrArg Prod.snd (State.handEnd_outline (s.reportClose id c _ _ forced interrupted) id _)
    next => rfl

/-- The state `u` stands to `s` as the state in which an event is closed does to the state before the command that closes it: no block
has taken a part of the command yet that the close would show. -/
structure State.ClosesFor (u s : State) : Prop where
  tb : u.tb = s.tb
  front : u.front = s.front
  cat : u.cat = s.cat
  store : u.store = s.store
  alerts : u.alerts = s.alerts
  params : ∀ p, p ∉ closingParams → u.param p = s.param p

/-- R99, R100: the queue as the Alert Queue finds it when the close reaches it. -/
theorem State.ClosesFor.grown {u s : State} (h : u.ClosesFor s) (counts : CountInv s) (room : s.alerts.alerts.length < 16)
    (c : EventCtx) (forced interrupted : Bool) : s.alerts.Grown (u.handedClose c forced interrupted).alerts := by
  have ids := counts.alertIds
  rw [← h.alerts] at ids room ⊢
  exact State.handedClose_grown ids room c forced interrupted

theorem State.ClosesFor.handedClose_params {u s : State} (h : u.ClosesFor s) (c : EventCtx) (forced interrupted : Bool) :
    ∀ p, p ∉ closingParams → (u.handedClose c forced interrupted).param p = s.param p := by
  intro p other
  rw [← h.params p other, State.param, State.param, State.handedClose_settings]

/-- R124: the Alert Queue's part of the close, `s` being the state before the command. -/
theorem State.ClosesFor.alert {u s : State} (h : u.ClosesFor s) (counts : CountInv s) (room : s.alerts.alerts.length + 3 ≤ 16)
    {c : EventCtx} {forced interrupted : Bool} {k : Track} (track : s.alerts.track = some k) :
    let t := (u.handedClose c forced interrupted).closeAlert (u.finalSummary c forced interrupted)
    let v := s.quakeSeverity c.peak
    let final := fun n : Nat => { u.finalSummary c forced interrupted with revision := n }
    (k.state = .none ∨ k.state = .lost → s.Qualifies v → ∃ y, s.NewQuake t k.event v (final 0) y)
    ∧ (∀ n, k.state = .delivered n → ∃ y, s.NewQuake t k.event v (final (n + 1)) y)
    ∧ ∀ y ∈ s.alerts.alerts, k.state = .alert y.id → y.cause = none →
      (y.transit = none →
        { y with quake := some (final ((y.quake.map fun q => q.revision).getD 0)), severity := v, pending := none }
          ∈ t.alerts.alerts)
      ∧ (y.transit ≠ none → { y with pending := some ⟨final 0, v⟩ } ∈ t.alerts.alerts) := by
  have grown := h.grown counts (by omega) c forced interrupted
  have told : (u.handedClose c forced interrupted).alerts.track = some k := by rw [grown.track, track]
  have joins : (u.handedClose c forced interrupted).alerts.alerts.length < 16 := by
    have := grown.length
    omega
  have params := h.handedClose_params c forced interrupted
  have severity := State.quakeSeverity_congr params
  have new : ∀ n, ∃ y, s.NewQuake
      ((u.handedClose c forced interrupted).join
        ((u.handedClose c forced interrupted).newAlert none (s.quakeSeverity c.peak) k.event
          (some { u.finalSummary c forced interrupted with revision := n }) []))
      k.event (s.quakeSeverity c.peak) { u.finalSummary c forced interrupted with revision := n } y := fun n => by
    obtain ⟨y, made⟩ := State.join_newQuake joins k.event (s.quakeSeverity c.peak)
      { u.finalSummary c forced interrupted with revision := n }
    exact ⟨y, made.transfer ((u.handedClose_tb ..).trans h.tb) (congrFun (State.ttl_congr params) _) grown.idle rfl rfl
      fun _ => id⟩
  have peak : (u.finalSummary c forced interrupted).peak = c.peak := rfl
  refine ⟨fun state qualifies => ?_, fun n state => ?_, fun y held state quake => ⟨fun queued => ?_, fun transit => ?_⟩⟩
  · have qualifies' : (u.handedClose c forced interrupted).qualifies
        ((u.handedClose c forced interrupted).quakeSeverity c.peak) = true := by
      refine State.qualifies_of ?_
      rw [severity]
      exact qualifies.imp_right fun one => by rw [State.paramN, params _ (by decide)]; exact one
    obtain ⟨y, made⟩ := new 0
    rw [State.closeAlert_of_none told _ state qualifies', peak, severity]
    exact ⟨y, made.transfer rfl rfl id rfl rfl fun _ => id⟩
  · obtain ⟨y, made⟩ := new (n + 1)
    rw [State.closeAlert_of_delivered told _ state, peak, severity]
    exact ⟨y, made.transfer rfl rfl id rfl rfl fun _ => id⟩
  · have revised := State.revised_mem_closeAlert told (u.finalSummary c forced interrupted) state (grown.find held quake) queued
    rwa [severity] at revised
  · have pending := State.pending_mem_closeAlert told (u.finalSummary c forced interrupted) state (grown.find held quake) transit
    rwa [severity] at pending

/-- R63, R83, R99, R124: what the close of an event leaves, `s` being the state before the command that closes it and `t` any later
state that has the close's records, jobs and alerts and in which what was raised is raised. -/
theorem State.ClosesFor.closed {u s : State} (h : u.ClosesFor s) {c : EventCtx} (event : u.trig.event = some c)
    (forced interrupted : Bool) {t : State} (cat : t.cat = (u.closeEvent forced interrupted true).cat)
    (store : t.store = (u.closeEvent forced interrupted true).store)
    (alerts : t.alerts = (u.closeEvent forced interrupted true).alerts)
    (raised : ∀ p, (u.closeEvent forced interrupted true).Raised p .alertWaiting → t.Raised p .alertWaiting) :
    s.Closed t c (s.front.newest.getD c.openIndex) forced interrupted := by
  have closes := State.closeEvent_eq event forced interrupted
  dsimp only at closes
  have newest : u.front.newest = s.front.newest := by rw [h.front]
  have stories : t.stories = (u.handedClose c forced interrupted).stories := by
    rw [State.stories, cat, closes]
    exact State.closeAlert_stories _ _
  have severity := State.quakeSeverity_congr h.params
  refine ⟨fun id record x held named => ?_, fun counts blocks id record j held named => ?_, ?_,
    fun counts room k track => ?_⟩
  · have story : x.story ∈ t.stories := List.mem_map_of_mem held
    rw [stories] at story
    have told := State.handedClose_record record forced interrupted story named
    rwa [newest, severity, h.cat] at told
  · rw [store, closes] at held
    dsimp only at held
    rw [State.closeAlert_store, State.handedClose, record] at held
    have handed := State.handEnd_jobs (s := u.reportClose id c _ _ forced interrupted)
      (by rw [State.reportClose_store, h.store]; exact blocks.oneJob) id _ j held named
    rwa [newest] at handed
  · rw [alerts, closes]
    exact State.closeAlert_track _ _
  · obtain ⟨none, delivered, alert⟩ := h.alert counts room track (c := c) (forced := forced) (interrupted := interrupted)
    have final : ∀ n : Nat, ({ u.finalSummary c forced interrupted with revision := n } : Summary) =
        ⟨c.onset.stamp, c.peak, c.ratio, some (idxSub (s.front.newest.getD c.openIndex) c.onset.index + 1), c.clipped,
          c.blanked, forced, interrupted, true, n⟩ := fun n => by
      rw [State.finalSummary, newest]
      rfl
    simp only [final] at none delivered alert
    rw [closes] at cat alerts raised
    have keep : ∀ n, (∃ y, s.NewQuake ((u.handedClose c forced interrupted).closeAlert (u.finalSummary c forced interrupted))
          k.event (s.quakeSeverity c.peak) n y) → ∃ y, s.NewQuake t k.event (s.quakeSeverity c.peak) n y :=
      fun n ⟨y, made⟩ => ⟨y, made.transfer rfl rfl id (by rw [alerts]) (by rw [cat]) raised⟩
    rw [alerts]
    exact ⟨fun state qualifies => keep _ (none state qualifies), fun n state => keep _ (delivered n state), alert⟩

end Sys2Proof.Machine
end

section
/-! SET (10 §10.2, R204 to R206): the new table in the words of the relations, what follows of it at once, and the answer. -/

namespace Sys2Proof.Machine

open Sys2Proof

/-! ### The table written, in the words of R205 -/

theorem Relation.upperSide_mem {r : Relation} (known : r ∈ relations) : ⟨r.upper, r.lower, r.gap, true⟩ ∈ relationSides :=
  List.mem_flatMap.2 ⟨r, known, List.mem_cons_self⟩

theorem Relation.lowerSide_mem {r : Relation} (known : r ∈ relations) : ⟨r.lower, r.upper, r.gap, false⟩ ∈ relationSides :=
  List.mem_flatMap.2 ⟨r, known, List.mem_cons_of_mem _ List.mem_cons_self⟩

/-- A side is one of the two readings of a relation. -/
theorem exists_relation_of_side {d : Side} (listed : d ∈ relationSides) :
    ∃ r ∈ relations, d = ⟨r.upper, r.lower, r.gap, true⟩ ∨ d = ⟨r.lower, r.upper, r.gap, false⟩ := by
  obtain ⟨r, known, reading⟩ := List.mem_flatMap.1 listed
  exact ⟨r, known, List.mem_pair.1 reading⟩

/-- R205: only the energy thresholds move a second partner, and only from the first or the last of them. -/
theorem Side.chain_ends : ∀ d ∈ relationSides, ∀ e ∈ relationSides, e.written = d.partner → e ≠ d.reverse →
    (d.written = .pwrConserve ∧ d.partner = .pwrCritical ∧ e.partner = .pwrDormant)
      ∨ (d.written = .pwrDormant ∧ d.partner = .pwrCritical ∧ e.partner = .pwrConserve) := by decide +kernel

theorem Side.partner_of_threshold : ∀ d ∈ relationSides, d.written = .pwrConserve ∨ d.written = .pwrDormant →
    d.partner = .pwrCritical := by decide +kernel

section

variable {t w : Table} {q : Param} {y : Int} {m : List Param} (h : Written t w q y m)

include h

theorem Written.upper {r : Relation} (known : r ∈ relations) (same : q = r.upper) :
    w.get q = max y (r.lower.low + r.gap) ∧ w.get r.lower = min (t.get r.lower) (w.get q - r.gap) :=
  h.side _ (Relation.upperSide_mem known) same.symm

theorem Written.lower {r : Relation} (known : r ∈ relations) (same : q = r.lower) :
    w.get q = min y (r.upper.high - r.gap) ∧ w.get r.upper = max (t.get r.upper) (w.get q + r.gap) := by
  obtain ⟨value, partner⟩ := h.side _ (Relation.lowerSide_mem known) same.symm
  simp only [Side.against, Side.endOf, Bool.false_eq_true, if_false] at value partner
  omega

theorem Written.unrelated (apart : ∀ r ∈ relations, q ≠ r.upper ∧ q ≠ r.lower) : w.get q = y := by
  refine h.free fun d listed same => ?_
  obtain ⟨r, known, rfl | rfl⟩ := exists_relation_of_side listed
  · exact (apart r known).1 same.symm
  · exact (apart r known).2 same.symm

theorem Written.dormant (same : q = .pwrConserve) : w.get .pwrDormant = min (t.get .pwrDormant) (w.get .pwrCritical - 5) :=
  h.chain ⟨.pwrConserve, .pwrCritical, 5, true⟩ (by decide) same.symm ⟨.pwrCritical, .pwrDormant, 5, true⟩ (by decide) rfl
    (by decide)

theorem Written.conserve (same : q = .pwrDormant) : w.get .pwrConserve = max (t.get .pwrConserve) (w.get .pwrCritical + 5) := by
  have chain := h.chain ⟨.pwrDormant, .pwrCritical, 5, false⟩ (by decide) same.symm ⟨.pwrCritical, .pwrConserve, 5, false⟩
    (by decide) rfl (by decide)
  simp only [Side.against, Bool.false_eq_true, if_false] at chain
  omega

/-- R205: a partner moved is a partner of the parameter written, or a threshold at the end of the chain. -/
theorem Written.moved_cases {x : Param} (moved : x ∈ m) :
    (∃ r ∈ relations, (q = r.upper ∧ x = r.lower) ∨ (q = r.lower ∧ x = r.upper))
      ∨ (q = .pwrConserve ∧ x = .pwrDormant) ∨ (q = .pwrDormant ∧ x = .pwrConserve) := by
  have partner : ∀ d ∈ relationSides, d.written = q → x = d.partner →
      ∃ r ∈ relations, (q = r.upper ∧ x = r.lower) ∨ (q = r.lower ∧ x = r.upper) := by
    intro d listed same named
    obtain ⟨r, known, rfl | rfl⟩ := exists_relation_of_side listed
    · exact ⟨r, known, .inl ⟨same.symm, named⟩⟩
    · exact ⟨r, known, .inr ⟨same.symm, named⟩⟩
  rcases h.order with rfl | ⟨d, listed, same, rfl | ⟨e, known, next, other, rfl⟩⟩
  · cases moved
  · exact .inl (partner d listed same (List.mem_singleton.1 moved))
  · rcases List.mem_pair.1 moved with named | named
    · exact .inl (partner d listed same named)
    · refine .inr ((Side.chain_ends d listed e known next other).imp (fun ends => ?_) fun ends => ?_)
      · exact ⟨same ▸ ends.1, named.trans ends.2.2⟩
      · exact ⟨same ▸ ends.1, named.trans ends.2.2⟩

/-- R205: every other parameter stays. -/
theorem Written.others {x : Param} (self : x ≠ q) (down : ¬ (q = .pwrConserve ∧ x = .pwrDormant))
    (up : ¬ (q = .pwrDormant ∧ x = .pwrConserve))
    (apart : ∀ r ∈ relations, ¬ (q = r.upper ∧ x = r.lower) ∧ ¬ (q = r.lower ∧ x = r.upper)) : w.get x = t.get x := by
  refine h.kept x self fun moved => ?_
  rcases h.moved_cases moved with ⟨r, known, reading⟩ | first | last
  · exact reading.elim (apart r known).1 (apart r known).2
  · exact down first
  · exact up last

theorem Written.nodup : m.Nodup := by
  rcases h.order with rfl | ⟨d, -, -, rfl | ⟨e, known, next, -, rfl⟩⟩
  · exact List.nodup_nil
  · exact List.nodup_singleton _
  · rw [List.nodup_cons, List.mem_singleton, ← next]
    exact ⟨(Side.partner_ne_written e known).symm, List.nodup_singleton _⟩

theorem Written.not_mem : q ∉ m := by
  rcases h.order with rfl | ⟨d, listed, rfl, rfl | ⟨e, known, next, other, rfl⟩⟩
  · exact List.not_mem_nil
  · exact fun moved => Side.partner_ne_written d listed (List.mem_singleton.1 moved).symm
  · have far := (Side.eq_reverse_or_chained d listed e known next other).2.1
    exact fun moved => (List.mem_pair.1 moved).elim (fun near => Side.partner_ne_written d listed near.symm) fun last => far last.symm

/-- R205: the thresholds are moved in the order of the chain. -/
theorem Written.sublist (same : q = .pwrConserve ∨ q = .pwrDormant) :
    m.Sublist [.pwrCritical, if q = .pwrConserve then .pwrDormant else .pwrConserve] := by
  rcases h.order with rfl | ⟨d, listed, rfl, rfl | ⟨e, known, next, other, rfl⟩⟩
  · exact List.nil_sublist _
  · rw [Side.partner_of_threshold d listed same]
    exact List.Sublist.cons_cons _ (List.nil_sublist _)
  · rw [Side.partner_of_threshold d listed same]
    rcases Side.chain_ends d listed e known next other with ⟨first, -, last⟩ | ⟨first, -, last⟩
    · rw [last, if_pos first]
    · rw [last, if_neg (by rw [first]; decide)]

/-- The partners whose value has changed are the parameters that have been moved (log entry 32). -/
theorem Written.mem_changed (x : Param) :
    x ∈ m.filter (fun x => decide (w.get x ≠ t.get x)) ↔ x ≠ q ∧ w.get x ≠ t.get x := by
  rw [List.mem_filter, decide_eq_true_eq]
  refine ⟨fun ⟨moved, changed⟩ => ⟨fun self => h.not_mem (self ▸ moved), changed⟩, fun ⟨self, changed⟩ => ⟨?_, changed⟩⟩
  by_contra still
  exact changed (h.kept x self still)

/-- R205: of the parameters whose SET may close an event none reaches any other. -/
theorem Written.kept_of_closing (closing : q ∈ closingParams) {x : Param} (other : x ∉ closingParams) : w.get x = t.get x := by
  have together : ∀ r ∈ relations, (r.upper ∈ closingParams ↔ r.lower ∈ closingParams) := by decide
  have thresholds : q ≠ .pwrConserve ∧ q ≠ .pwrDormant := by
    constructor <;> rintro rfl <;> exact absurd closing (by decide)
  refine h.others (fun self => other (self ▸ closing)) (fun e => thresholds.1 e.1) (fun e => thresholds.2 e.1)
    fun r known => ⟨?_, ?_⟩
  · rintro ⟨rfl, rfl⟩
    exact other ((together r known).1 closing)
  · rintro ⟨rfl, rfl⟩
    exact other ((together r known).2 closing)

/-- R53: only SET of one of them changes a detector constant. -/
theorem Written.constant_of_changed {x : Param} (constant : x ∈ [Param.trigDcShift, .trigStaShift, .trigLtaShift])
    (changed : w.get x ≠ t.get x) : q ∈ [Param.trigDcShift, .trigStaShift, .trigLtaShift] := by
  have together : ∀ r ∈ relations,
      (r.upper ∈ [Param.trigDcShift, .trigStaShift, .trigLtaShift] ↔ r.lower ∈ [Param.trigDcShift, .trigStaShift, .trigLtaShift]) := by
    decide
  by_contra apart
  refine changed (h.others (fun self => apart (self ▸ constant)) ?_ ?_ fun r known => ⟨?_, ?_⟩)
  · rintro ⟨-, rfl⟩
    exact absurd constant (by decide)
  · rintro ⟨-, rfl⟩
    exact absurd constant (by decide)
  · rintro ⟨rfl, rfl⟩
    exact apart ((together r known).2 constant)
  · rintro ⟨rfl, rfl⟩
    exact apart ((together r known).1 constant)

/-- R186: a port speed is no part of a relation and stays within its range. -/
theorem Written.baud_nonneg (table : TableInv t) {v : Int} (limited : y = q.limit v) (k : Port) : 0 ≤ w.get (baudParam k) := by
  have range : 0 ≤ (baudParam k).low := by cases k <;> decide
  have apart : ∀ r ∈ relations, baudParam k ≠ r.upper ∧ baudParam k ≠ r.lower := by cases k <;> decide
  by_cases self : baudParam k = q
  · have value := h.unrelated (self ▸ apart)
    have low := (q.limit_bounds v).1
    rw [self] at range ⊢
    omega
  · have stays : w.get (baudParam k) = t.get (baudParam k) :=
      h.others self (by cases k <;> simp [baudParam]) (by cases k <;> simp [baudParam])
        fun r known => ⟨fun e => (apart r known).2 e.2, fun e => (apart r known).1 e.2⟩
    have low := (table.bounds (baudParam k)).1
    omega

end

/-- R53: the detector constants differ where one of the three does. -/
theorem constantsDiffer_eq_true {t u : Table} : constantsDiffer t u = true ↔
    u.get .trigDcShift ≠ t.get .trigDcShift ∨ u.get .trigStaShift ≠ t.get .trigStaShift
      ∨ u.get .trigLtaShift ≠ t.get .trigLtaShift := by
  simp only [constantsDiffer, Bool.or_eq_true, decide_eq_true_eq, ne_comm (a := t.get _), or_assoc]

theorem Written.constant_of_differ {t w : Table} {q : Param} {y : Int} {m : List Param} (h : Written t w q y m)
    (differ : constantsDiffer t w = true) : q ∈ [Param.trigDcShift, .trigStaShift, .trigLtaShift] := by
  rcases constantsDiffer_eq_true.1 differ with changed | changed | changed
  all_goals exact h.constant_of_changed (by decide) changed

end Sys2Proof.Machine
end

section
/-! What follows of a SET (10 §10.2; R4, R53, R57, R58, R66, R180, R182, R186) and its answer, block by block. -/

namespace Sys2Proof

theorem Port.other_ne (p : Port) : p.other ≠ p := by cases p <;> decide

end Sys2Proof

namespace Sys2Proof.Machine

open Sys2Proof

/-! ### The Trigger Unit (R53, R57, R58, R66) -/

/-- R57: a cause added suspends a station that is not SUSPENDED, and ends its event. -/
theorem State.addCause_trig (s : State) (f : Causes → Causes) :
    (s.addCause f).trig =
      if s.trig.station = .suspended then { s.trig with causes := f s.trig.causes }
      else { s.trig with causes := f s.trig.causes, station := .suspended, event := none, countdown := none } := by
  unfold State.addCause
  dsimp only
  split
  · rfl
  · dsimp only
    rw [State.closeEvent_trig]
    split
    next event =>
      dsimp only at event
      rw [← event]
    next => rfl

/-- R57: with a station not SUSPENDED, what a cause added leaves of the other blocks is what the close leaves. -/
theorem State.addCause_eq {s : State} (f : Causes → Causes) (active : s.trig.station ≠ .suspended) :
    let u : State := { s with trig := { s.trig with causes := f s.trig.causes } }
    s.addCause f = { u.closeEvent false true true with trig := (s.addCause f).trig } := by
  unfold State.addCause
  dsimp only
  rw [if_neg active]

/-- R58: the last cause removed ends SUSPENDED, and the components prime. -/
theorem State.removeCause_trig (s : State) (f : Causes → Causes) :
    (s.removeCause f).trig =
      if (s.trig.causes.any && !(f s.trig.causes).any) = true then
        { s.trig with causes := f s.trig.causes, station := .quiet, comp := s.trig.comp.map Comp.beginPriming }
      else { s.trig with causes := f s.trig.causes } := by
  unfold State.removeCause
  dsimp only
  split <;> rfl

/-- R57, R58: ENABLE_OFF is the last cause exactly where it stands alone. -/
theorem Causes.any_without_enableOff (c : Causes) :
    (c.any && !({ c with enableOff := false } : Causes).any) = true ↔ c = ⟨true, false, false⟩ := by
  obtain ⟨off, front, dormant⟩ := c
  cases off <;> cases front <;> cases dormant <;> decide

/-- R53, R66: a change of the detector constants ends any event and primes the components. -/
theorem State.constantsChanged_trig (s : State) :
    s.constantsChanged.trig =
      if s.trig.event = none then { s.trig with comp := s.trig.comp.map Comp.beginPriming }
      else
        { s.trig with
          station := .quiet, event := none, countdown := none, comp := s.trig.comp.map Comp.beginPriming } := by
  unfold State.constantsChanged
  cases event : s.trig.event with
  | none => simp [event]
  | some c => simp [State.closeEvent_trig, event]

/-- R66: with an event in progress, what a change of the constants leaves of the other blocks is what the close leaves. -/
theorem State.constantsChanged_eq {s : State} {c : EventCtx} (event : s.trig.event = some c) :
    s.constantsChanged = { s.closeEvent false true true with trig := s.constantsChanged.trig } := by
  unfold State.constantsChanged
  simp only [event]
  rfl

/-- R66: with no event in progress the components prime, and nothing else happens. -/
theorem State.constantsChanged_of_none {s : State} (event : s.trig.event = none) : s.constantsChanged = s.beginPriming := by
  unfold State.constantsChanged
  simp [event]

theorem State.addCause_wires (s : State) (f : Causes → Causes) : (s.addCause f).wires = s.wires := by
  by_cases suspended : s.trig.station = .suspended
  · unfold State.addCause
    dsimp only
    rw [if_pos suspended]
    rfl
  · rw [State.addCause_eq f suspended]
    exact State.closeEvent_wires { s with trig := { s.trig with causes := f s.trig.causes } } false true

theorem State.removeCause_wires (s : State) (f : Causes → Causes) : (s.removeCause f).wires = s.wires := by
  unfold State.removeCause
  dsimp only
  split <;> rfl

theorem State.constantsChanged_wires (s : State) : s.constantsChanged.wires = s.wires := by
  cases event : s.trig.event with
  | none =>
    rw [State.constantsChanged_of_none event]
    rfl
  | some c =>
    rw [State.constantsChanged_eq event]
    exact s.closeEvent_wires false true

theorem State.enableWritten_wires (s : State) : s.enableWritten.wires = s.wires := by
  unfold State.enableWritten
  split
  · exact s.addCause_wires _
  · exact s.removeCause_wires _

/-! ### What a SET brings at once -/

/-- R4: the compensation values form TC anew. -/
theorem State.settingEffects_tb (s : State) (t : Table) (q : Param) :
    (s.settingEffects t q).tb = if q ∈ Param.timeParams.drop 12 then s.recomputeTc.tb else s.tb := by
  have compensation : (s.capacityWritten t).recomputeTc.tb = s.recomputeTc.tb := rfl
  simp only [State.settingEffects, apply_ite State.tb, State.chargeEnable_tb, State.enableWritten_tb,
    State.constantsChanged_tb, State.capacityWritten_tb, compensation, ite_self, List.contains_iff_mem]

theorem State.mayCharge_congr {s u : State} (pins : u.pins = s.pins) (thermal : u.thermal = s.thermal)
    (settings : u.settings = s.settings) : u.mayCharge = s.mayCharge := by
  unfold State.mayCharge State.param
  rw [pins, thermal, settings]

/-- R180, R182: of the Energy Unit a SET notes a change of the capacity, and judges charge-enable where its range is set. -/
theorem State.settingEffects_energy (s : State) (t : Table) (q : Param) :
    (s.settingEffects t q).energy =
      { s.energy with
        capacityChanged := s.energy.capacityChanged || decide (t.get .pwrCapacity ≠ s.param .pwrCapacity)
        chargeEnable := if q = .pwrChargeMin ∨ q = .pwrChargeMax then s.mayCharge else s.energy.chargeEnable } := by
  unfold State.settingEffects
  dsimp only
  split
  next =>
    rw [State.chargeEnable_energy, State.mayCharge_congr (s := s)]
    all_goals simp [apply_ite State.energy, apply_ite State.pins, apply_ite State.thermal, apply_ite State.settings]
  next => simp [apply_ite State.energy]

theorem State.settingEffects_wires (s : State) (t : Table) (q : Param) : (s.settingEffects t q).wires = s.wires := by
  have charge : ∀ u : State, u.chargeEnable.wires = u.wires := fun _ => rfl
  have compensation : ∀ u : State, u.recomputeTc.wires = u.wires := fun _ => rfl
  have capacity : (s.capacityWritten t).wires = s.wires := rfl
  simp only [State.settingEffects, apply_ite State.wires, charge, compensation, capacity, State.enableWritten_wires,
    State.constantsChanged_wires, ite_self]

/-- A SET that touches neither trig.enable nor a detector constant reaches no block but the Timebase and the Energy Unit. -/
theorem State.settingEffects_of_apart {s : State} {t : Table} {q : Param} (enable : q ≠ .trigEnable)
    (constants : constantsDiffer t s.settings.working = false) :
    (s.settingEffects t q).trig = s.trig ∧ (s.settingEffects t q).store = s.store ∧ (s.settingEffects t q).cat = s.cat
      ∧ (s.settingEffects t q).alerts = s.alerts := by
  unfold State.settingEffects
  dsimp only
  rw [if_neg enable]
  split <;> split <;> simp [constants]

/-- R57, R58: a SET of trig.enable. -/
theorem State.settingEffects_of_enable {s : State} {t : Table}
    (constants : constantsDiffer t s.settings.working = false) :
    s.settingEffects t .trigEnable = (s.capacityWritten t).enableWritten := by
  unfold State.settingEffects
  simp [constants, Param.timeParams]

/-- R53, R66: a SET that changes a detector constant. -/
theorem State.settingEffects_of_constants {s : State} {t : Table} {q : Param}
    (own : q ∈ [Param.trigDcShift, .trigStaShift, .trigLtaShift])
    (constants : constantsDiffer t s.settings.working = true) :
    s.settingEffects t q = (s.capacityWritten t).constantsChanged := by
  unfold State.settingEffects
  fin_cases own <;> simp [constants, Param.timeParams]

/-! ### The answer and the port speeds (R186, R191, R206) -/

/-- R206, R186: SETTINGS_CHANGED toward the other port, the answer, and the other port's speed. -/
def State.settingAnswered (s : State) (p : Port) (line : Text) : State :=
  ((s.raise p.other .settingsChanged).respond p line).applySpeed p.other

theorem State.applySpeed_of_responding {s : State} {p : Port} (h : (s.port.get p).state = .responding) :
    s.applySpeed p = s := by
  unfold State.applySpeed
  rw [h]

theorem State.applySpeed_port_of_ne {s : State} {p k : Port} (h : k ≠ p) :
    (s.applySpeed p).port.get k = s.port.get k := by
  unfold State.applySpeed
  split
  · exact PerPort.get_set_of_ne _ _ h
  all_goals rfl

/-- R186: a port that answers keeps its speed for now; only the other one may take a new speed. -/
theorem State.respond_applySpeed (s : State) (p : Port) (line : Text) :
    ((s.respond p line).applySpeed .a).applySpeed .b = (s.respond p line).applySpeed p.other := by
  cases p with
  | a => rw [State.applySpeed_of_responding (p := .a) rfl]; rfl
  | b =>
    refine State.applySpeed_of_responding ?_
    rw [State.applySpeed_port_of_ne (by decide)]
    rfl

theorem PortRec.takeSpeed_speed (r : PortRec) (n : Nat) : (r.takeSpeed n).speed = n := by
  unfold PortRec.takeSpeed
  split
  · assumption
  · rfl

theorem PortRec.takeSpeed_pending (r : PortRec) (n : Nat) : (r.takeSpeed n).pending = r.pending := by
  unfold PortRec.takeSpeed
  split <;> rfl

/-- R186: a READY port takes the speed of the working table. -/
theorem State.applySpeed_speed {s : State} {p : Port} (ready : (s.port.get p).state = .ready) :
    ((s.applySpeed p).port.get p).speed = s.paramN (baudParam p) := by
  unfold State.applySpeed
  simp [ready, PortRec.takeSpeed_speed]

theorem State.applySpeed_pending_get (s : State) (p k : Port) :
    ((s.applySpeed p).port.get k).pending = (s.port.get k).pending := by
  unfold State.applySpeed
  split
  · dsimp only
    rw [PerPort.get_set]
    split
    next same => rw [PortRec.takeSpeed_pending, same]
    next => rfl
  all_goals rfl

theorem State.respond_pending_get (s : State) (p k : Port) (line : Text) :
    ((s.respond p line).port.get k).pending = (s.port.get k).pending := by
  rw [State.respond_port, PerPort.get_set]
  split
  next same => rw [same]
  next => rfl

theorem State.routing_of_settings {s u : State} (h : u.settings = s.settings) (p : Port) : u.routing p = s.routing p := by
  cases p <;> simp only [State.routing, State.paramN, State.param, h]

/-- R206: what has been raised stays raised while the SET is answered. -/
theorem State.Raised.settingAnswered {s : State} {k : Port} {c : Attn} (h : (s.raise p.other .settingsChanged).Raised k c)
    (line : Text) : (s.settingAnswered p line).Raised k c := by
  intro routes
  have settings : (s.settingAnswered p line).settings = (s.raise p.other .settingsChanged).settings := by
    simp [State.settingAnswered]
  rw [State.routing_of_settings settings] at routes
  rw [State.settingAnswered, State.applySpeed_pending_get, State.respond_pending_get]
  exact h routes

/-- The port's side of an answered SET: its own answer at its old speed, and the speed of the other port. -/
theorem State.settingAnswered_port (s : State) (p : Port) (line : Text) :
    ((s.settingAnswered p line).port.get p).line = line ∧ ((s.settingAnswered p line).port.get p).state = .responding
    ∧ ((s.settingAnswered p line).port.get p).speed = (s.port.get p).speed
    ∧ ((s.port.get p.other).state = .ready →
        ((s.settingAnswered p line).port.get p.other).speed = s.paramN (baudParam p.other)) := by
  have own : (s.settingAnswered p line).port.get p =
      { (s.raise p.other .settingsChanged).port.get p with state := .responding, line := line, payload := [] } := by
    rw [State.settingAnswered, State.applySpeed_port_of_ne p.other_ne.symm, State.respond_port, PerPort.get_set_self]
  have kept : ∀ (r : PortRec) (mask : Nat) (c : Attn),
      (r.take mask c).present.state = r.state ∧ (r.take mask c).present.speed = r.speed := by
    intro r mask c
    unfold PortRec.present PortRec.take
    split <;> split <;> exact ⟨rfl, rfl⟩
  refine ⟨by rw [own], by rw [own], ?_, fun ready => ?_⟩
  · rw [own, State.raise_port, PerPort.get_set_of_ne _ _ p.other_ne.symm]
  · rw [State.settingAnswered, State.applySpeed_speed]
    · rfl
    · rw [State.respond_port, PerPort.get_set_of_ne _ _ p.other_ne, State.raise_port, PerPort.get_set_self, (kept _ _ _).1, ready]

theorem State.port_of_wires {s u : State} (h : u.wires = s.wires) (k : Port) :
    (u.port.get k).state = (s.port.get k).state ∧ (u.port.get k).speed = (s.port.get k).speed := by
  have same : (u.port.get k).wire = (s.port.get k).wire := by
    simp only [State.wires, PerPort.mk.injEq] at h
    cases k
    · exact h.1
    · exact h.2
  exact ⟨(congrArg PortRec.state same :), (congrArg PortRec.speed same :)⟩

end Sys2Proof.Machine
end

section
/-! O58: the command SET, assembled block by block from the new table, what follows of it and its answer. -/

namespace Sys2Proof.Machine

open Sys2Proof

/-- The state of a taken SET once the new table stands and before anything follows of it. -/
def State.tableSet (s : State) (p : Port) (w : Table) : State :=
  { s with
    port := s.port.set p (s.port.get p).emptied
    settings := { s.settings with working := w } }

/-- R206, R213: the answer to a SET of `q` to `v` that turned table `t` into `w`, the partners judged being `m`. -/
def setLine (t w : Table) (q : Param) (v : Int) (m : List Param) : Text :=
  let moved := m.filter fun x => decide (w.get x ≠ t.get x)
  reply (if w.get q = v ∧ moved = [] then .ok else .clamped) "SET" (paramField w q :: moved.map (paramField w))

/-- The state after a taken SET of parameter `q` to `v`, `w` being the new table with the partners judged. -/
def State.afterSet (s : State) (p : Port) (q : Param) (v : Int) (w : Table × List Param) : State :=
  ((s.tableSet p w.1).settingEffects s.settings.working q).settingAnswered p (setLine s.settings.working w.1 q v w.2)

/-- R204: a SET that names a parameter and gives a number. -/
theorem cmdSet_of_param {s : State} {p : Port} {args name value : Text} {v : Int} {q : Param}
    (line : tokens args = [name, value]) (number : numberToken value = some v) (named : name = q.row.name.toList) :
    cmdSet p args { s with port := s.port.set p (s.port.get p).emptied } =
      s.afterSet p q v (s.settings.working.write q v) := by
  simp only [cmdSet, line, number, named, paramWord_name]
  exact State.respond_applySpeed _ p _

/-- R204: a SET whose name is no parameter's. -/
theorem cmdSet_of_unknown {s : State} {p : Port} {args name value : Text} {v : Int} (line : tokens args = [name, value])
    (number : numberToken value = some v) (unknown : ∀ q : Param, name ≠ q.row.name.toList) :
    cmdSet p args { s with port := s.port.set p (s.port.get p).emptied } = s.answered p ("UNKNOWN".toList ++ crlf) := by
  simp only [cmdSet, line, number, paramWord_eq_none unknown, State.respond_emptied]
  rfl

/-! ### The blocks after the answer -/

section

variable (s : State) (p : Port) (line : Text)

@[simp] theorem State.settingAnswered_tb : (s.settingAnswered p line).tb = s.tb := by simp [State.settingAnswered]
@[simp] theorem State.settingAnswered_front : (s.settingAnswered p line).front = s.front := by simp [State.settingAnswered]
@[simp] theorem State.settingAnswered_trig : (s.settingAnswered p line).trig = s.trig := by simp [State.settingAnswered]
@[simp] theorem State.settingAnswered_cat : (s.settingAnswered p line).cat = s.cat := by simp [State.settingAnswered]
@[simp] theorem State.settingAnswered_store : (s.settingAnswered p line).store = s.store := by simp [State.settingAnswered]
@[simp] theorem State.settingAnswered_alerts : (s.settingAnswered p line).alerts = s.alerts := by simp [State.settingAnswered]
@[simp] theorem State.settingAnswered_thermal : (s.settingAnswered p line).thermal = s.thermal := by
  simp [State.settingAnswered]
@[simp] theorem State.settingAnswered_energy : (s.settingAnswered p line).energy = s.energy := by simp [State.settingAnswered]
@[simp] theorem State.settingAnswered_settings : (s.settingAnswered p line).settings = s.settings := by
  simp [State.settingAnswered]
@[simp] theorem State.settingAnswered_pins : (s.settingAnswered p line).pins = s.pins := by simp [State.settingAnswered]

end

section

variable (s : State) (p : Port) (q : Param) (v : Int) (w : Table × List Param)

theorem State.afterSet_settings : (s.afterSet p q v w).settings = { s.settings with working := w.1 } := by
  simp [State.afterSet, State.tableSet]

theorem State.afterSet_param (x : Param) : (s.afterSet p q v w).param x = w.1.get x := by
  rw [State.param, State.afterSet_settings]

theorem State.afterSet_unmoved : (s.afterSet p q v w).front = s.front ∧ (s.afterSet p q v w).thermal = s.thermal
    ∧ (s.afterSet p q v w).pins = s.pins := by
  simp [State.afterSet, State.tableSet]

/-! ### The Timebase (R4) -/

/-- R4: the compensation table's entries, by their places among the parameters. -/
theorem State.compEntry_eq (s : State) {i : Nat} (h : i ≤ 11) :
    s.compEntry i = s.param (Param.timeParams.getD (12 + i) .timeComp11) := by
  have place : 12 + i < Param.timeParams.length := by
    have : Param.timeParams.length = 24 := rfl
    omega
  rw [State.compEntry, List.getD_eq_getElem?_getD, List.getElem?_eq_getElem place]
  rfl

/-- R4: TC, in the words of the rule. -/
theorem State.compensation_eq (s : State) (x : Int) :
    let entry := fun k : Nat => s.param (Param.timeParams.getD (12 + k) .timeComp11)
    s.compensation x =
      if x < -960 then entry 0
      else if 800 ≤ x then entry 11
      else
        let k := (Int.fdiv (x + 960) 160).toNat
        entry k + Int.tdiv ((entry (k + 1) - entry k) * (x - (160 * (k : Int) - 960))) 160 := by
  intro entry
  unfold State.compensation
  split
  · exact s.compEntry_eq (by decide)
  · split
    · exact s.compEntry_eq (by decide)
    · have segment : (Int.fdiv (x + 960) 160).toNat ≤ 10 := by
        rw [Int.fdiv_eq_ediv_of_nonneg _ (by decide)]
        omega
      simp only [floorDiv, truncDiv, s.compEntry_eq (Nat.le_succ_of_le segment), s.compEntry_eq (Nat.succ_le_succ segment),
        show ∀ k : Int, -960 + 160 * k = 160 * k - 960 from fun k => by omega]
      rfl

/-- R4: a compensation value that is set forms TC anew. -/
theorem State.afterSet_tb_of_compensation (own : q ∈ Param.timeParams.drop 12) :
    let t := s.afterSet p q v w
    let entry := fun k : Nat => t.param (Param.timeParams.getD (12 + k) .timeComp11)
    t.tb =
      { s.tb with
        tc :=
          match s.thermal.chan.osc.value with
          | none => 0
          | some x =>
            if x < -960 then entry 0
            else if 800 ≤ x then entry 11
            else
              let k := (Int.fdiv (x + 960) 160).toNat
              entry k + Int.tdiv ((entry (k + 1) - entry k) * (x - (160 * (k : Int) - 960))) 160 } := by
  intro t entry
  have formed : t.tb = (s.tableSet p w.1).recomputeTc.tb := by
    simp only [t, State.afterSet, State.settingAnswered_tb, State.settingEffects_tb, own, if_true]
  have entries : entry = fun k : Nat => (s.tableSet p w.1).param (Param.timeParams.getD (12 + k) .timeComp11) :=
    funext fun k => s.afterSet_param p q v w _
  have channel : (s.tableSet p w.1).thermal.chan.osc.value = s.thermal.chan.osc.value := rfl
  rw [formed, entries, State.recomputeTc, channel]
  cases s.thermal.chan.osc.value with
  | none => rfl
  | some x =>
    dsimp only
    rw [State.compensation_eq]
    rfl

theorem State.afterSet_tb_of_other (other : q ∉ Param.timeParams.drop 12) : (s.afterSet p q v w).tb = s.tb := by
  simp only [State.afterSet, State.settingAnswered_tb, State.settingEffects_tb, other, if_false]
  rfl

/-! ### The Energy Unit (R180, R182) -/

theorem State.afterSet_energy :
    (s.afterSet p q v w).energy =
      { s.energy with
        capacityChanged := s.energy.capacityChanged
          || decide ((s.afterSet p q v w).param .pwrCapacity ≠ s.param .pwrCapacity)
        chargeEnable := if q = .pwrChargeMin ∨ q = .pwrChargeMax then (s.tableSet p w.1).mayCharge
          else s.energy.chargeEnable } := by
  have changed : decide ((s.afterSet p q v w).param .pwrCapacity ≠ s.param .pwrCapacity) =
      decide (s.settings.working.get .pwrCapacity ≠ (s.tableSet p w.1).param .pwrCapacity) := by
    rw [State.afterSet_param]
    exact decide_eq_decide.2 ne_comm
  rw [changed, State.afterSet, State.settingAnswered_energy, State.settingEffects_energy]
  rfl

/-- R180: the condition for charge-enable, with the range just set. -/
theorem State.afterSet_mayCharge :
    (s.tableSet p w.1).mayCharge =
      (s.pins.source && !s.thermal.chan.batt.fault
        && match s.thermal.chan.batt.value with
          | some x => decide ((s.afterSet p q v w).param .pwrChargeMin * 16 ≤ x
              ∧ x ≤ (s.afterSet p q v w).param .pwrChargeMax * 16)
          | none => false) := by
  simp only [State.afterSet_param, Bool.decide_and]
  rfl

end

/-! ### The ports (R186, R196, R206) -/

/-- The ports after a SET: the answer stands, at the old speed, and a READY other port has the speed of the new table. -/
theorem State.afterSet_port {s : State} {q : Param} {v : Int} {w : Table × List Param} (table : TableInv s.settings.working)
    (h : Written s.settings.working w.1 q (q.limit v) w.2) (p : Port) :
    let t := s.afterSet p q v w
    (t.port.get p).line = setLine s.settings.working w.1 q v w.2 ∧ (t.port.get p).state = .responding
    ∧ (t.port.get p).speed = (s.port.get p).speed ∧ t.Raised p.other .settingsChanged
    ∧ ((s.port.get p.other).state = .ready → ((t.port.get p.other).speed : Int) = t.param (baudParam p.other)) := by
  intro t
  have wires := State.port_of_wires ((s.tableSet p w.1).settingEffects_wires s.settings.working q)
  obtain ⟨line, state, speed, other⟩ :=
    ((s.tableSet p w.1).settingEffects s.settings.working q).settingAnswered_port p (setLine s.settings.working w.1 q v w.2)
  refine ⟨line, state, ?_, (State.raised_raise _ _ _).settingAnswered _, fun ready => ?_⟩
  · have own : ((s.tableSet p w.1).port.get p).speed = (s.port.get p).speed := by
      rw [State.tableSet, PerPort.get_set_self]
      rfl
    rw [← own, ← (wires p).2]
    exact speed
  · have idle : ((s.tableSet p w.1).port.get p.other).state = .ready := by
      rw [State.tableSet, PerPort.get_set_of_ne _ _ p.other_ne, ready]
    have taken := other ((wires p.other).1.trans idle)
    have value : ((s.tableSet p w.1).settingEffects s.settings.working q).paramN (baudParam p.other) =
        (w.1.get (baudParam p.other)).toNat := by
      rw [State.paramN, State.param, State.settingEffects_settings]
      rfl
    rw [State.afterSet_param, ← Int.toNat_of_nonneg (h.baud_nonneg table rfl p.other), ← value, ← taken]
    rfl

/-! ### The Trigger Unit and what a close reaches (R53, R57, R58, R66) -/

/-- R63: the index of the newest set, or of the opening where the ring is empty. -/
theorem Front.newest_getD (f : Front) (k : Nat) :
    f.newest.getD k = match f.ring with | [] => k | y :: _ => y.index := by
  unfold Front.newest
  cases f.ring <;> rfl

theorem State.afterSet_of_apart {s : State} {q : Param} {v : Int} {w : Table × List Param} (p : Port)
    (h : Written s.settings.working w.1 q (q.limit v) w.2)
    (apart : q ∉ [Param.trigEnable, .trigDcShift, .trigStaShift, .trigLtaShift]) :
    let t := s.afterSet p q v w
    t.trig = s.trig ∧ t.store = s.store ∧ t.cat = s.cat ∧ t.alerts = s.alerts := by
  rw [List.mem_cons, not_or] at apart
  have same : constantsDiffer s.settings.working (s.tableSet p w.1).settings.working = false :=
    Bool.eq_false_iff.2 fun differ => apart.2 (h.constant_of_differ differ)
  have effects := State.settingEffects_of_apart apart.1 same
  simp only [State.afterSet, State.settingAnswered_trig, State.settingAnswered_store, State.settingAnswered_cat,
    State.settingAnswered_alerts]
  exact effects

/-- The state of a taken SET once the new table stands and the change of the capacity is noted. -/
def State.tableNoted (s : State) (p : Port) (w : Table) : State := (s.tableSet p w).capacityWritten s.settings.working

/-- The state in which a SET closes an event stands to the state before the SET as `State.ClosesFor` asks: no other block has changed. -/
theorem State.tableSet_closesFor {s : State} {q : Param} {y : Int} {w : Table × List Param} (p : Port)
    (h : Written s.settings.working w.1 q y w.2) (closing : q ∈ closingParams) (trig : Trigger) :
    ({ s.tableNoted p w.1 with trig := trig } : State).ClosesFor s where
  tb := rfl
  front := rfl
  cat := rfl
  store := rfl
  alerts := rfl
  params _ other := h.kept_of_closing closing other

/-- R63: the close of the event, as the SET is answered. -/
theorem State.ClosesFor.closed_settingAnswered {u s : State} (h : u.ClosesFor s) {c : EventCtx} (event : u.trig.event = some c)
    (trig : Trigger) (p : Port) (line : Text) :
    s.Closed (({ u.closeEvent false true true with trig := trig } : State).settingAnswered p line) c
      (s.front.newest.getD c.openIndex) false true := by
  refine h.closed event false true ?_ ?_ ?_ fun k told => ?_
  · rw [State.settingAnswered_cat]
  · rw [State.settingAnswered_store]
  · rw [State.settingAnswered_alerts]
  · refine State.Raised.settingAnswered (State.Raised.raise ?_ _ _) _
    exact told

/-- R57, R58: a SET of trig.enable, limited to 0 or 1, reaches the Trigger Unit and no other block. -/
theorem State.afterSet_of_enable {s : State} {v : Int} {w : Table × List Param} (p : Port)
    (h : Written s.settings.working w.1 .trigEnable (Param.trigEnable.limit v) w.2) :
    s.afterSet p .trigEnable v w =
        (s.tableNoted p w.1).enableWritten.settingAnswered p (setLine s.settings.working w.1 .trigEnable v w.2)
      ∧ (s.tableNoted p w.1).paramN .trigEnable = (clampInt 0 1 v).toNat := by
  have same : constantsDiffer s.settings.working (s.tableSet p w.1).settings.working = false :=
    Bool.eq_false_iff.2 fun differ => absurd (h.constant_of_differ differ) (by decide)
  have written : w.1.get .trigEnable = clampInt 0 1 v := h.unrelated (by decide)
  refine ⟨?_, congrArg Int.toNat written⟩
  rw [State.afterSet, State.settingEffects_of_enable same]
  rfl

/-- R57, R63: trig.enable 0 ends the event in progress. -/
theorem State.afterSet_of_enable_zero {s : State} {v : Int} {w : Table × List Param} (p : Port)
    (h : Written s.settings.working w.1 .trigEnable (Param.trigEnable.limit v) w.2) (off : v ≤ 0) :
    let t := s.afterSet p .trigEnable v w
    t.trig =
      (if s.trig.station = .suspended then { s.trig with causes := { s.trig.causes with enableOff := true } }
      else
        { s.trig with
          causes := { s.trig.causes with enableOff := true }, station := .suspended, event := none, countdown := none })
    ∧ (s.trig.station ≠ .suspended → ∀ c, s.trig.event = some c → s.Closed t c (s.front.newest.getD c.openIndex) false true) := by
  intro t
  obtain ⟨reached, value⟩ := State.afterSet_of_enable p h
  have zero : (s.tableNoted p w.1).paramN .trigEnable = 0 := by
    rw [value, clampInt]
    omega
  have answered : t = ((s.tableNoted p w.1).addCause fun c => { c with enableOff := true }).settingAnswered p
      (setLine s.settings.working w.1 .trigEnable v w.2) := by
    rw [State.enableWritten, if_pos zero] at reached
    exact reached
  refine ⟨?_, fun active c event => ?_⟩
  · rw [answered, State.settingAnswered_trig, State.addCause_trig]
    rfl
  · have closes := State.addCause_eq (s := s.tableNoted p w.1) (fun c => { c with enableOff := true }) active
    have reaches := State.tableSet_closesFor p h (by decide) { s.trig with causes := { s.trig.causes with enableOff := true } }
    rw [answered, closes]
    exact reaches.closed_settingAnswered event _ p _

/-- R58: trig.enable 1 ends ENABLE_OFF. -/
theorem State.afterSet_of_enable_one {s : State} {v : Int} {w : Table × List Param} (p : Port)
    (h : Written s.settings.working w.1 .trigEnable (Param.trigEnable.limit v) w.2) (on : 0 < v) :
    (s.afterSet p .trigEnable v w).trig =
      if s.trig.causes = ⟨true, false, false⟩ then
        { s.trig with causes := ⟨false, false, false⟩, station := .quiet, comp := s.trig.comp.map Comp.beginPriming }
      else { s.trig with causes := { s.trig.causes with enableOff := false } } := by
  obtain ⟨reached, value⟩ := State.afterSet_of_enable p h
  have one : (s.tableNoted p w.1).paramN .trigEnable ≠ 0 := by
    rw [value, clampInt]
    omega
  have last := Causes.any_without_enableOff s.trig.causes
  rw [reached, State.settingAnswered_trig, State.enableWritten, if_neg one, State.removeCause_trig]
  by_cases alone : s.trig.causes = ⟨true, false, false⟩
  · have left : ({ s.trig.causes with enableOff := false } : Causes) = ⟨false, false, false⟩ := by rw [alone]
    rw [if_pos alone, ← left]
    exact if_pos (last.2 alone)
  · rw [if_neg alone]
    exact if_neg (mt last.1 alone)

/-- R53, R66: a change of a detector constant primes the components and ends the event in progress. -/
theorem State.afterSet_of_constants {s : State} {q : Param} {v : Int} {w : Table × List Param} (p : Port)
    (h : Written s.settings.working w.1 q (q.limit v) w.2)
    (differ : constantsDiffer s.settings.working w.1 = true) :
    let t := s.afterSet p q v w
    t.trig =
      (if s.trig.event = none then { s.trig with comp := s.trig.comp.map Comp.beginPriming }
      else
        { s.trig with
          station := .quiet, event := none, countdown := none, comp := s.trig.comp.map Comp.beginPriming })
    ∧ ∀ c, s.trig.event = some c → s.Closed t c (s.front.newest.getD c.openIndex) false true := by
  intro t
  have own := h.constant_of_differ differ
  have answered : t = (s.tableNoted p w.1).constantsChanged.settingAnswered p
      (setLine s.settings.working w.1 q v w.2) :=
    congrArg (fun e => State.settingAnswered e p _) (State.settingEffects_of_constants (s := s.tableSet p w.1) own differ)
  refine ⟨?_, fun c event => ?_⟩
  · rw [answered, State.settingAnswered_trig, State.constantsChanged_trig]
    rfl
  · have closes := State.constantsChanged_eq (s := s.tableNoted p w.1) event
    have reaches := State.tableSet_closesFor p h (List.mem_cons_of_mem _ own) s.trig
    rw [answered, closes]
    exact reaches.closed_settingAnswered event _ p _

/-- Settles O58. The new table is what `Table.write_written` says of it; the answer and the ports are `State.afterSet_port`; what follows
at once is one lemma for each block: `State.afterSet_tb_of_compensation`, `State.afterSet_energy`, and for the Trigger Unit the
three ways in which a SET reaches it, each with the close of the event. -/
theorem setWritesTable : Obligations.SetWritesTable := by
  intro s p args name value v takes line number
  have taken : exec (.setParam p args) s = .next (s.takeLine p (cmdSet p args)) := rfl
  rw [taken, State.takeLine_ready takes]
  refine ⟨fun unknown => by rw [cmdSet_of_unknown line number unknown], fun q named table => ?_⟩
  rw [cmdSet_of_param line number named]
  have h := Table.write_written table q v
  refine ⟨_, rfl, ?_⟩
  generalize s.settings.working.write q v = w at h
  have param : ∀ x, (s.afterSet p q v w).param x = w.1.get x := s.afterSet_param p q v w
  have before : ∀ x, s.param x = s.settings.working.get x := fun _ => rfl
  obtain ⟨answer, state, speed, raised, other⟩ := State.afterSet_port table h p
  obtain ⟨front, thermal, pins⟩ := s.afterSet_unmoved p q v w
  have energy := s.afterSet_energy p q v w
  refine ⟨fun r known => ⟨fun upper => ?_, fun lower => ?_⟩, fun apart => ?_, fun threshold => ?_, fun threshold => ?_,
    fun x self down up apart => ?_, ?_, ⟨w.2.filter fun x => decide (w.1.get x ≠ s.settings.working.get x),
      h.nodup.filter _, fun x => ?_, fun threshold => ?_, fun threshold => ?_, ?_⟩, state, speed, raised, other,
    s.afterSet_tb_of_other p q v w, s.afterSet_tb_of_compensation p q v w, ?_, fun low high => ?_, fun bound => ?_,
    State.afterSet_of_apart p h, ⟨fun enable off => ?_, fun enable on => ?_, fun changed => ?_⟩, front, thermal, pins⟩
  · simp only [param, before]
    exact h.upper known upper
  · simp only [param, before]
    exact h.lower known lower
  · rw [param]
    exact h.unrelated apart
  · simp only [param, before]
    exact h.dormant threshold
  · simp only [param, before]
    exact h.conserve threshold
  · rw [param, before]
    exact h.others self down up apart
  · rw [State.afterSet_settings]
  · rw [param, before]
    exact h.mem_changed x
  · have order := h.sublist (.inl threshold)
    rw [if_pos threshold] at order
    exact List.filter_sublist.trans order
  · have order := h.sublist (.inr threshold)
    rw [if_neg (by rw [threshold]; decide)] at order
    exact List.filter_sublist.trans order
  · rw [answer]
    simp only [param]
    rfl
  · rw [energy]
  · rw [energy]
    simp only [low, high, or_self, if_false]
  · rw [energy]
    simp only [bound, if_true]
    exact s.afterSet_mayCharge p q v w
  · subst enable
    obtain ⟨trig, closed⟩ := State.afterSet_of_enable_zero p h off
    simp only [Front.newest_getD] at closed
    exact ⟨trig, closed⟩
  · subst enable
    exact State.afterSet_of_enable_one p h on
  · have differ : constantsDiffer s.settings.working w.1 = true := by
      simp only [param, before] at changed
      exact constantsDiffer_eq_true.2 changed
    obtain ⟨trig, closed⟩ := State.afterSet_of_constants p h differ
    simp only [Front.newest_getD] at closed
    exact ⟨trig, closed⟩

end Sys2Proof.Machine
end
